-- ==== Sys2Proof/Word.lean ====
section
/-! DEFINITION. The byte of the links and of the configuration memory. -/

namespace Sys2Proof

/-- One byte, as the links carry it and the configuration memory stores it (R157, R189). -/
abbrev Byte := BitVec 8

end Sys2Proof
end

