-- ==== Sys2Proof/Syntax.lean ====
section
/-! DEFINITION. The commands: one constructor of `Instr` for each row of spec/opcode_table.json.

A link request carries its port, its TAG and its argument bytes exactly as the frame does (R187), so that every
byte value, in range or not, is an operand. An event of a timer, an input or the supply carries what the part
reads at that event. -/

namespace Sys2Proof

/-- The three links (R143). Port A and Port B are the planes. -/
inductive Port where
  | a | b | m
  deriving DecidableEq, Repr

/-- The ringing sources: four generators and the fallback feed (R116). -/
inductive Feed where
  | f1 | f2 | f3 | f4 | fb
  deriving DecidableEq, Repr

/-- The conductor over which a station is rung (R10). -/
inductive Side where
  | tip | ring | loop
  deriving DecidableEq, Repr

/-- What one line's inputs show at one scanner sample (R74): loop sense CLOSED, trip sense PRESENT, relay
readback OPERATED. -/
structure LineInput where
  line : Fin 32
  closed : Bool
  trip : Bool
  operated : Bool
  deriving DecidableEq, Repr

/-- What one feed's sense input shows at one feed sample (R118). -/
structure FeedInput where
  feed : Feed
  present : Bool
  deriving DecidableEq, Repr

/-- How the configuration memory behaved during a SAVE (R183), from which the SAVE's end follows.
DESIGN CHOICE, safe (log 15): the manual gives the outcome by the memory's answers, which are inputs. -/
structure SaveReport where
  /-- Writes of steps 1 to 3 that the memory acknowledged before the first it did not. -/
  acks : Nat
  /-- Bytes the memory holds otherwise than they were written. -/
  garbled : List Host.Cell
  /-- The memory answered every read of step 4. -/
  answers : Bool
  /-- The memory answered the read-back of the signature in step 5. -/
  signatureAnswers : Bool
  /-- The memory acknowledged the second clear of the signature. -/
  clearsAgain : Bool
  deriving DecidableEq, Repr

/-- The commands of the Barsovel 3208, one constructor for each row of spec/opcode_table.json. -/
inductive Instr where
  | openPlane (p : Port) (tag : Byte)
  | closePlane (p : Port) (tag : Byte)
  | claim (p : Port) (tag line serial : Byte)
  | release (p : Port) (tag line : Byte)
  | takeover (p : Port) (tag : Byte)
  | ring (p : Port) (tag line party cls limit progress : Byte)
  | cancelRing (p : Port) (tag line : Byte)
  | promote (p : Port) (tag line cls : Byte)
  | revert (p : Port) (tag line caller called ringCaller limit : Byte)
  | cancelRevert (p : Port) (tag line : Byte)
  | setPolicy (p : Port) (tag policy : Byte)
  | fetch (p : Port) (tag : Byte)
  | lineStatus (p : Port) (tag line : Byte)
  | feedStatus (p : Port) (tag feed : Byte)
  | portStatus (p : Port) (tag : Byte)
  | readLine (p : Port) (tag line : Byte)
  | readStation (p : Port) (tag line party : Byte)
  | readPattern (p : Port) (tag pattern : Byte)
  | readFeed (p : Port) (tag feed : Byte)
  | readFault (p : Port) (tag : Byte)
  | writeLine (p : Port) (tag line admin base count allowance limit guarded : Byte)
  | writeStation (p : Port) (tag line party enabled home side pattern load selective guarded : Byte)
  | writePattern (p : Port) (tag pattern count on1 off1 on2 off2 on3 off3 on4 off4 : Byte)
  | writeFeed (p : Port) (tag feed freq : Byte) (capacity : BitVec 16) (fallback : Byte)
  | resetLine (p : Port) (tag line : Byte)
  | save (p : Port) (tag : Byte)
  | reset (p : Port) (tag : Byte)
  | clearFault (p : Port) (tag : Byte)
  | clearFeedFault (p : Port) (tag feed : Byte)
  | forceSenseLoss (p : Port) (tag feed value : Byte)
  | clearCause (p : Port) (tag : Byte)
  | badRequest (p : Port) (tag kind : Byte) (args : List Byte)
  | linkByteReceived (p : Port) (byte : Byte) (stopHigh : Bool)
  | byteGapTimeout (p : Port)
  | responseSent (p : Port)
  | cadenceTick
  | noAnswer (line : Fin 32)
  | waitExpired (line : Fin 32)
  | noHangup (line : Fin 32)
  | scannerSample (inputs : List LineInput)
  | burstGuardEnd (input : LineInput)
  | offHookFinding (line : Fin 32)
  | onHookFinding (line : Fin 32)
  | flashFinding (line : Fin 32)
  | tripFinding (line : Fin 32)
  | relayFault (input : LineInput)
  | feedSample (inputs : List FeedInput)
  | feedFail (feed : Feed)
  | feedRecovery (feed : Feed)
  | fbRecovery
  | batteryReading (reading : Nat)
  | batteryState (reading : Nat)
  | referenceLost
  | referenceRestored (gap : Nat)
  | powerOnReset
  | supplyDip
  | resetPin
  | commandedReset
  | load (silent : List Nat)
  | run
  | saveDone (report : SaveReport)
  | referenceEdge (gap : Nat)
  deriving DecidableEq, Repr

end Sys2Proof
end

