-- ==== Sys2Proof/Decode.lean ====
section
/-! DEFINITION. The table's words (none of its rows gives any bits) and the link bodies of requests (R187):
which request a body names, and the body of each request. -/

namespace Sys2Proof

/-- The 31 requests, in the order of the request catalogue (09, 9.4). -/
inductive Kind where
  | openPlane | closePlane | claim | release | takeover | ring | cancelRing | promote | revert | cancelRevert
  | setPolicy | fetch | lineStatus | feedStatus | portStatus | readLine | readStation | readPattern | readFeed
  | readFault | writeLine | writeStation | writePattern | writeFeed | resetLine | save | reset | clearFault
  | clearFeedFault | forceSenseLoss | clearCause
  deriving DecidableEq, Repr

/-- The requests in catalogue order; the KIND of each is its place, counted from 0x01 (R187). -/
def Kind.catalogue : List Kind :=
  [.openPlane, .closePlane, .claim, .release, .takeover, .ring, .cancelRing, .promote, .revert, .cancelRevert,
   .setPolicy, .fetch, .lineStatus, .feedStatus, .portStatus, .readLine, .readStation, .readPattern, .readFeed,
   .readFault, .writeLine, .writeStation, .writePattern, .writeFeed, .resetLine, .save, .reset, .clearFault,
   .clearFeedFault, .forceSenseLoss, .clearCause]

/-- The KIND byte of a request: 0x01 for OPEN to 0x1F for CLEAR_CAUSE (R187). -/
def Kind.code : Kind → Byte
  | .openPlane => 0x01
  | .closePlane => 0x02
  | .claim => 0x03
  | .release => 0x04
  | .takeover => 0x05
  | .ring => 0x06
  | .cancelRing => 0x07
  | .promote => 0x08
  | .revert => 0x09
  | .cancelRevert => 0x0A
  | .setPolicy => 0x0B
  | .fetch => 0x0C
  | .lineStatus => 0x0D
  | .feedStatus => 0x0E
  | .portStatus => 0x0F
  | .readLine => 0x10
  | .readStation => 0x11
  | .readPattern => 0x12
  | .readFeed => 0x13
  | .readFault => 0x14
  | .writeLine => 0x15
  | .writeStation => 0x16
  | .writePattern => 0x17
  | .writeFeed => 0x18
  | .resetLine => 0x19
  | .save => 0x1A
  | .reset => 0x1B
  | .clearFault => 0x1C
  | .clearFeedFault => 0x1D
  | .forceSenseLoss => 0x1E
  | .clearCause => 0x1F

/-- The one argument length of each request (R187). -/
def Kind.argLength : Kind → Nat
  | .openPlane | .closePlane | .takeover | .fetch | .portStatus | .readFault | .save | .reset | .clearFault
  | .clearCause => 0
  | .release | .cancelRing | .cancelRevert | .setPolicy | .lineStatus | .feedStatus | .readLine | .readPattern
  | .readFeed | .resetLine | .clearFeedFault => 1
  | .claim | .promote | .readStation | .forceSenseLoss => 2
  | .ring | .revert | .writeFeed => 5
  | .writeLine => 7
  | .writeStation => 9
  | .writePattern => 10

/-- The request a KIND byte names, if any (R187). A KIND with its top bit set names none. -/
def Kind.ofByte (b : Byte) : Option Kind :=
  Kind.catalogue.find? fun k => k.code == b

/-- Whether KIND and the number of argument bytes are those of no request, so that the answer is BAD_REQUEST
(R161 step 2). -/
def namesNoRequest (kind : Byte) (args : List Byte) : Bool :=
  match Kind.ofByte kind with
  | none => true
  | some k => k.argLength != args.length

/-- The request of a kind with its argument bytes in the order the catalogue names them (R187); the capacity of
WRITE_FEED is two bytes, high byte first. -/
def requestOf (p : Port) (tag : Byte) : Kind → List Byte → Option Instr
  | .openPlane, [] => some (.openPlane p tag)
  | .closePlane, [] => some (.closePlane p tag)
  | .claim, [l, n] => some (.claim p tag l n)
  | .release, [l] => some (.release p tag l)
  | .takeover, [] => some (.takeover p tag)
  | .ring, [l, y, c, f, n] => some (.ring p tag l y c f n)
  | .cancelRing, [l] => some (.cancelRing p tag l)
  | .promote, [l, c] => some (.promote p tag l c)
  | .revert, [l, x, y, r, f] => some (.revert p tag l x y r f)
  | .cancelRevert, [l] => some (.cancelRevert p tag l)
  | .setPolicy, [q] => some (.setPolicy p tag q)
  | .fetch, [] => some (.fetch p tag)
  | .lineStatus, [l] => some (.lineStatus p tag l)
  | .feedStatus, [f] => some (.feedStatus p tag f)
  | .portStatus, [] => some (.portStatus p tag)
  | .readLine, [l] => some (.readLine p tag l)
  | .readStation, [l, y] => some (.readStation p tag l y)
  | .readPattern, [k] => some (.readPattern p tag k)
  | .readFeed, [f] => some (.readFeed p tag f)
  | .readFault, [] => some (.readFault p tag)
  | .writeLine, [l, m, b, c, w, f, g] => some (.writeLine p tag l m b c w f g)
  | .writeStation, [l, y, e, h, d, k, r, v, g] => some (.writeStation p tag l y e h d k r v g)
  | .writePattern, [k, c, n1, f1, n2, f2, n3, f3, n4, f4] => some (.writePattern p tag k c n1 f1 n2 f2 n3 f3 n4 f4)
  | .writeFeed, [f, q, hi, lo, b] => some (.writeFeed p tag f q (hi ++ lo) b)
  | .resetLine, [l] => some (.resetLine p tag l)
  | .save, [] => some (.save p tag)
  | .reset, [] => some (.reset p tag)
  | .clearFault, [] => some (.clearFault p tag)
  | .clearFeedFault, [f] => some (.clearFeedFault p tag f)
  | .forceSenseLoss, [f, v] => some (.forceSenseLoss p tag f v)
  | .clearCause, [] => some (.clearCause p tag)
  | _, _ => none

/-- The command that a received body stands for: TAG, KIND, then the arguments (R161, R187). A body whose KIND
names no request or whose argument length is wrong is a BAD_REQUEST; a body of fewer than two bytes is no body
(R157 admits none). -/
def decodeBody (p : Port) : List Byte → Option Instr
  | tag :: kind :: args =>
    match (Kind.ofByte kind).bind fun k => requestOf p tag k args with
    | some i => some i
    | none => some (.badRequest p tag kind args)
  | _ => none

/-- The port and the body of a request (R187); none for a command that is no request. -/
def encodeBody : Instr → Option (Port × List Byte)
  | .openPlane p tag => some (p, [tag, Kind.openPlane.code])
  | .closePlane p tag => some (p, [tag, Kind.closePlane.code])
  | .claim p tag l n => some (p, [tag, Kind.claim.code, l, n])
  | .release p tag l => some (p, [tag, Kind.release.code, l])
  | .takeover p tag => some (p, [tag, Kind.takeover.code])
  | .ring p tag l y c f n => some (p, [tag, Kind.ring.code, l, y, c, f, n])
  | .cancelRing p tag l => some (p, [tag, Kind.cancelRing.code, l])
  | .promote p tag l c => some (p, [tag, Kind.promote.code, l, c])
  | .revert p tag l x y r f => some (p, [tag, Kind.revert.code, l, x, y, r, f])
  | .cancelRevert p tag l => some (p, [tag, Kind.cancelRevert.code, l])
  | .setPolicy p tag q => some (p, [tag, Kind.setPolicy.code, q])
  | .fetch p tag => some (p, [tag, Kind.fetch.code])
  | .lineStatus p tag l => some (p, [tag, Kind.lineStatus.code, l])
  | .feedStatus p tag f => some (p, [tag, Kind.feedStatus.code, f])
  | .portStatus p tag => some (p, [tag, Kind.portStatus.code])
  | .readLine p tag l => some (p, [tag, Kind.readLine.code, l])
  | .readStation p tag l y => some (p, [tag, Kind.readStation.code, l, y])
  | .readPattern p tag k => some (p, [tag, Kind.readPattern.code, k])
  | .readFeed p tag f => some (p, [tag, Kind.readFeed.code, f])
  | .readFault p tag => some (p, [tag, Kind.readFault.code])
  | .writeLine p tag l m b c w f g => some (p, [tag, Kind.writeLine.code, l, m, b, c, w, f, g])
  | .writeStation p tag l y e h d k r v g => some (p, [tag, Kind.writeStation.code, l, y, e, h, d, k, r, v, g])
  | .writePattern p tag k c n1 f1 n2 f2 n3 f3 n4 f4 =>
    some (p, [tag, Kind.writePattern.code, k, c, n1, f1, n2, f2, n3, f3, n4, f4])
  | .writeFeed p tag f q c b =>
    some (p, [tag, Kind.writeFeed.code, f, q, c.extractLsb' 8 8, c.extractLsb' 0 8, b])
  | .resetLine p tag l => some (p, [tag, Kind.resetLine.code, l])
  | .save p tag => some (p, [tag, Kind.save.code])
  | .reset p tag => some (p, [tag, Kind.reset.code])
  | .clearFault p tag => some (p, [tag, Kind.clearFault.code])
  | .clearFeedFault p tag f => some (p, [tag, Kind.clearFeedFault.code, f])
  | .forceSenseLoss p tag f v => some (p, [tag, Kind.forceSenseLoss.code, f, v])
  | .clearCause p tag => some (p, [tag, Kind.clearCause.code])
  | .badRequest p tag kind args => some (p, tag :: kind :: args)
  | _ => none

/-- The command a word of spec/opcode_table.json spells. No row of the table gives any bits, so no word spells
one (log 23). -/
def decodeTableWord (_nbits _w : Nat) : Option Instr := none

end Sys2Proof
end

