-- ==== Sys2Proof/Config.lean ====
section
/-! DEFINITION. What is fixed for every Barsovel 3208, and the values its manual leaves open.
The constants without a body are free values: nothing can be proved of what they are. -/

namespace Sys2Proof.Config

/-- The pool holds at most 24 jobs (R45). -/
def poolSize : Nat := 24

/-- The revert table holds at most 8 records (R93). -/
def revertTableSize : Nat := 8

/-- Each event queue holds at most 32 events (R166). -/
def queueSize : Nat := 32

/-- One FETCH removes at most four events (R168). -/
def fetchSize : Nat := 4

/-- The wait timer and the hang-up timer end at 300 cadence ticks (R61, R98). -/
def timerLimit : Nat := 300

/-- The image is 1133 bytes long (R177). -/
def imageSize : Nat := 1133

/-- The signature of a complete image, high byte first (R177, R189). -/
def signature : Byte × Byte := (0x5A, 0x3C)

/-- DESIGN CHOICE, safe (log 12). The byte that says in a CANCEL_RING or CANCEL_REVERT payload whether the
binding was kept (`true`) or released (`false`). R68, R111 and R188 name the field and give no code for it. -/
opaque bindingCode : Bool → Byte

/-- DESIGN CHOICE, safe (log 13). The section flags LOAD works with when the memory answers every byte that
validity needs and does not answer the flags byte. R177 and R180 state none. -/
opaque unansweredFlags : Nat → Byte

/-- DESIGN CHOICE, safe (log 14). How many writes of a SAVE the memory had acknowledged when a reset cut it.
R185 does not state it. -/
opaque savedWrites : Nat → Nat

end Sys2Proof.Config
end

