-- ==== Sys2Proof/Machine/State.lean ====
section
/-! DEFINITION. Everything the manual says the Barsovel 3208 holds, the reasons a command can stop, and the part
right after a power-on reset. Numbered things (lines, parties, stations, patterns, phases) are `Fin`s; a field the
manual marks optional is an `Option`. -/

namespace Sys2Proof.Machine

/-- Why a command stops the model. -/
inductive Fault where
  /-- Raised by SAVE_DONE whose report names a byte outside the image, an address the manual does not give the
  configuration memory (R189, log 26). Safe: no well-formed command raises it. -/
  | outsideImage (address : Nat)
  deriving DecidableEq, Repr

/-- Why a command has no meaning in the model. -/
inductive Refusal where
  /-- Raised by `exec` for a row that has no meaning yet. Safe: the model stops. -/
  | notModelled (mnemonic : String)
  deriving DecidableEq, Repr

/-- The three phases of start-up and running (R178, R180, R181). -/
inductive Phase where
  | hold | load | run
  deriving DecidableEq, Repr

/-- Administrative state of a line (R3, R5). -/
inductive Admin where
  | disabled | enabled | faulted
  deriving DecidableEq, Repr

/-- Supervision state of a line (R8, R75, R76). -/
inductive Supervision where
  | unscanned | onHook | closing | offHook | opening
  deriving DecidableEq, Repr

/-- How the scanner sees a line's relay drive (R73, R77). -/
inductive DriveView where
  | clear | burst | guard
  deriving DecidableEq, Repr

/-- States of a ring job (R50). -/
inductive JobState where
  | reserved | waiting | placed | ringing | suspended
  deriving DecidableEq, Repr

/-- Which party a revert's job rings (R46). -/
inductive Turn where
  | called | caller
  deriving DecidableEq, Repr

/-- States of a revert (R94). -/
inductive RevertState where
  | awaitHangup | ringingCalled | ringingCaller
  deriving DecidableEq, Repr

/-- Battery level (R132). -/
inductive Level where
  | normal | low | critical
  deriving DecidableEq, Repr

/-- Direction of the run of battery readings (R132). -/
inductive RunDirection where
  | none | fall | rise
  deriving DecidableEq, Repr

/-- Feed state (R117). -/
inductive FeedState where
  | good | failed
  deriving DecidableEq, Repr

/-- Reference state (R138). -/
inductive ReferenceState where
  | present | lost
  deriving DecidableEq, Repr

/-- Queue policy (R49). -/
inductive Policy where
  | byClass | byArrival
  deriving DecidableEq, Repr

/-- Service state of a plane (R143). -/
inductive Service where
  | outOfService | inService
  deriving DecidableEq, Repr

/-- Where the last LOAD took the configuration from (R180). -/
inductive ConfigSource where
  | image | defaults
  deriving DecidableEq, Repr

/-- Kinds of fault (R170, R171). -/
inductive FaultKind where
  | feedFail | relayFault | imageInvalid | saveFailed | referenceLost | batteryCritical
  deriving DecidableEq, Repr

/-- Kinds of event, in the order of the event table (09, 9.5). -/
inductive EventKind where
  | origination | originationAbandoned | lineOffHook | lineOnHook | lineFlash
  | ringAnswered | ringEnded | ringProgress | revertRinging | revertAnswered | revertEnded
  | feedState | batteryState | referenceState | faultCaptured | saveDone | start
  deriving DecidableEq, Repr

/-- States of a link receiver (R157). -/
inductive ReceiveState where
  | hunt | length | body | check
  deriving DecidableEq, Repr

/-- Findings of the scanner that are handed on as takings of their own (R86). -/
inductive FindingKind where
  | offHook
  | onHook
  /-- With its open duration in units of 10 ms (R83). -/
  | flash (duration : Nat)
  | trip
  deriving DecidableEq, Repr

/-- How far a RESET request has come (R163, R186): none, answered with its response still being sent, or due. -/
inductive ResetStage where
  | none | answered | due
  deriving DecidableEq, Repr

/-- A line descriptor (R3). -/
structure Descriptor where
  admin : Admin
  base : Fin 192
  count : Nat
  allowance : Nat
  frameLimit : Nat
  guarded : Bool
  deriving DecidableEq, Repr

/-- The relay drive when it is not NONE: a feed with a side (R8). -/
structure Drive where
  feed : Feed
  side : Side
  deriving DecidableEq, Repr

/-- The scanner's own fields of a line (R73). -/
structure Scan where
  runCount : Nat
  view : DriveView
  samples : Nat
  tripRun : Nat
  mismatchRun : Nat
  deriving DecidableEq, Repr

/-- A line: its descriptor, its runtime record (R8) and the scanner's record (R73). -/
structure Line where
  desc : Descriptor
  supervision : Supervision
  parked : Bool
  owner : Option Port
  serial : BitVec 8
  drive : Option Drive
  scan : Scan
  deriving DecidableEq, Repr

/-- A station record (R10). -/
structure Station where
  enabled : Bool
  home : Feed
  side : Side
  pattern : Fin 16
  load : Nat
  selective : Bool
  guarded : Bool
  deriving DecidableEq, Repr

/-- One burst of a pattern: its on length and its off length in cadence ticks (R23). -/
structure Burst where
  on : Nat
  off : Nat
  deriving DecidableEq, Repr

/-- A pattern record: its ordered list of bursts (R23). -/
structure Pattern where
  bursts : List Burst
  deriving DecidableEq, Repr

/-- The last burst start a feed carried (R125). -/
structure BurstMark where
  line : Fin 32
  party : Fin 8
  stamp : BitVec 16
  deriving DecidableEq, Repr

/-- The configuration and the runtime record of a feed (R116, R117). -/
structure FeedRecord where
  freq : Nat
  capacity : Nat
  fallback : Bool
  state : FeedState
  absentRun : Nat
  presentRun : Nat
  latch : Bool
  forcedLoss : Bool
  lastBurst : Option BurstMark
  frozen : Bool
  deriving DecidableEq, Repr

/-- A ring job (R46). -/
structure Job where
  line : Fin 32
  party : Fin 8
  station : Option (Fin 192)
  owner : Port
  cls : Fin 4
  pattern : Option (Fin 16)
  load : Option Nat
  home : Option Feed
  current : Option Feed
  state : JobState
  phase : Option (Fin 12)
  framesRung : Nat
  frameLimit : Nat
  progress : Bool
  waitTimer : Nat
  shedCount : Nat
  turn : Option Turn
  deriving DecidableEq, Repr

/-- A revert record in use (R92). -/
structure Revert where
  line : Fin 32
  caller : Fin 8
  called : Fin 8
  ringCaller : Bool
  owner : Port
  state : RevertState
  hangupTimer : Nat
  frameLimit : Nat
  deriving DecidableEq, Repr

/-- A finding made at a sample and not yet handed on (R86). -/
structure Finding where
  line : Fin 32
  kind : FindingKind
  deriving DecidableEq, Repr

/-- The battery monitor's fields (R132). The derating factor and the class gate follow from the level. -/
structure Battery where
  level : Level
  direction : RunDirection
  count : Nat
  reach : Option Level
  deriving DecidableEq, Repr

/-- The reference monitor's fields (R138); the restore run is in microseconds (log 19). -/
structure Reference where
  state : ReferenceState
  restoreRun : Nat
  runOpen : Bool
  deriving DecidableEq, Repr

/-- An event record (09, 9.5). The detail is its high byte followed by its low byte (R188). -/
structure Event where
  kind : EventKind
  line : Option (Fin 32)
  party : Option (Fin 8)
  detail : BitVec 16
  serial : Option (BitVec 8)
  stamp : BitVec 16
  deriving DecidableEq, Repr

/-- A link receiver (R157): its state, LEN held, received-byte count, body bytes and high check byte held. -/
structure Receiver where
  state : ReceiveState
  len : Nat
  count : Nat
  body : List Byte
  high : Option Byte
  deriving DecidableEq, Repr

/-- The frame in a receive buffer (R160): its body and whether it has been taken as a request (R161). -/
structure Frame where
  body : List Byte
  taken : Bool
  deriving DecidableEq, Repr

/-- A port's queue and flag (R143, R166) and its link (R157, R160, R162). -/
structure PortRecord where
  queue : List Event
  overflow : Bool
  receiver : Receiver
  buffer : Option Frame
  response : Option (List Byte)
  deriving DecidableEq, Repr

/-- A FULL fault record (R170). -/
structure FaultRecord where
  kind : FaultKind
  feed : Option Feed
  line : Option (Fin 32)
  stamp : BitVec 16
  deriving DecidableEq, Repr

/-- The missed-kind set, a mark for each of the six kinds (R170). -/
structure MissedKinds where
  feedFail : Bool
  relayFault : Bool
  imageInvalid : Bool
  saveFailed : Bool
  referenceLost : Bool
  batteryCritical : Bool
  deriving DecidableEq, Repr

/-- The reset cause set, a mark for each of the four kinds of reset (R179). -/
structure Causes where
  power : Bool
  supply : Bool
  pin : Bool
  commanded : Bool
  deriving DecidableEq, Repr

/-- The configuration memory: its bytes that differ from what an unlisted address reads as, addresses strictly
rising (log 2). -/
abbrev Memory := List Host.Cell

/-- A SAVE in flight (R182): the 1133 bytes fixed at acceptance, and the memory as it stood before (log 14). -/
structure SaveInFlight where
  contents : List Byte
  before : Memory
  deriving DecidableEq, Repr

/-- A plane that a TAKEOVER has put out of service, and the lines that TAKEOVER moved from it (R97, R153, log 31). -/
structure TakenOver where
  plane : Port
  lines : List (Fin 32)
  deriving DecidableEq, Repr

/-- The whole part. `pending` is the model's queue of commands, `freeCount` what free values are applied to, and
`takenOver` what a TAKEOVER leaves for the row of R97 (log 31); every other field is the manual's. -/
structure State where
  phase : Phase
  pos : Fin 60
  stamp : BitVec 16
  lines : Vector Line 32
  stations : Vector Station 192
  patterns : Vector Pattern 16
  feeds : Vector FeedRecord 5
  policy : Policy
  jobs : List Job
  reverts : List Revert
  findings : List Finding
  battery : Battery
  reference : Reference
  serviceA : Service
  serviceB : Service
  takenOver : Option TakenOver
  ports : Vector PortRecord 3
  faultRecord : Option FaultRecord
  missed : MissedKinds
  causes : Causes
  source : ConfigSource
  heldCapture : Bool
  resetStage : ResetStage
  image : Memory
  save : Option SaveInFlight
  freeCount : Nat
  pending : List Instr
  deriving DecidableEq, Repr

/-- The default line descriptor (R21). -/
def Descriptor.default : Descriptor :=
  { admin := .disabled, base := 0, count := 0, allowance := 0, frameLimit := 10, guarded := false }

/-- The scanner's fields after a reset, a restart or a disabling (R73, R89, R90). -/
def Scan.reset : Scan :=
  { runCount := 0, view := .clear, samples := 0, tripRun := 0, mismatchRun := 0 }

/-- A line after any reset: the default descriptor until LOAD (log 1), the runtime values of R8. -/
def Line.reset : Line :=
  { desc := .default, supervision := .unscanned, parked := false, owner := none, serial := 0, drive := none,
    scan := .reset }

/-- The default station record (R21). -/
def Station.default : Station :=
  { enabled := false, home := .f1, side := .loop, pattern := 0, load := 10, selective := false, guarded := false }

/-- The default patterns P0 to P15 (R24, R25). -/
def Pattern.default (k : Fin 16) : Pattern :=
  match k with
  | 1 => ⟨[⟨4, 4⟩, ⟨4, 48⟩]⟩
  | 2 => ⟨[⟨10, 4⟩, ⟨4, 42⟩]⟩
  | 3 => ⟨[⟨4, 4⟩, ⟨4, 4⟩, ⟨4, 40⟩]⟩
  | 4 => ⟨[⟨10, 4⟩, ⟨10, 36⟩]⟩
  | _ => ⟨[⟨20, 40⟩]⟩

/-- A feed after any reset: the default configuration until LOAD (R116, log 1), the runtime values of R117. -/
def FeedRecord.reset : FeedRecord :=
  { freq := 1, capacity := 0, fallback := false, state := .good, absentRun := 0, presentRun := 0, latch := false,
    forcedLoss := false, lastBurst := none, frozen := false }

/-- The battery monitor after any reset (R132). -/
def Battery.reset : Battery := { level := .normal, direction := .none, count := 0, reach := none }

/-- The reference monitor after any reset (R138). -/
def Reference.reset : Reference := { state := .present, restoreRun := 0, runOpen := false }

/-- A link receiver after any reset, and after any frame (R157, log 25). -/
def Receiver.reset : Receiver := { state := .hunt, len := 0, count := 0, body := [], high := none }

/-- A port after any reset (R143, R157, R160, R167). -/
def PortRecord.reset : PortRecord :=
  { queue := [], overflow := false, receiver := .reset, buffer := none, response := none }

/-- No missed kind (R170). -/
def MissedKinds.empty : MissedKinds :=
  { feedFail := false, relayFault := false, imageInvalid := false, saveFailed := false, referenceLost := false,
    batteryCritical := false }

/-- The empty reset cause set (R179). -/
def Causes.empty : Causes := { power := false, supply := false, pin := false, commanded := false }

/-- The part right after a power-on reset, in HOLD (R178): the cause set holds POWER (R179), the fault record is
EMPTY (R176), and everything else is at the value its rule gives; the values the manual does not give are named in
logs 1, 2, 3, 25 and 27. -/
def State.reset : State :=
  { phase := .hold
    pos := 0
    stamp := 0
    lines := Vector.replicate 32 Line.reset
    stations := Vector.replicate 192 Station.default
    patterns := Vector.ofFn Pattern.default
    feeds := Vector.replicate 5 FeedRecord.reset
    policy := .byClass
    jobs := []
    reverts := []
    findings := []
    battery := .reset
    reference := .reset
    serviceA := .outOfService
    serviceB := .outOfService
    takenOver := none
    ports := Vector.replicate 3 PortRecord.reset
    faultRecord := none
    missed := .empty
    causes := { Causes.empty with power := true }
    source := .defaults
    heldCapture := false
    resetStage := .none
    image := []
    save := none
    freeCount := 0
    pending := [] }

end Sys2Proof.Machine
end

