-- ==== Sys2Proof/Machine/Ops.lean ====
section
/-! DEFINITION. The named operations on the part's records: reading and writing a line, station, pattern, feed, port,
job or revert; posting events; capturing faults; the configuration memory. -/

namespace Sys2Proof.Machine

/-! ### Lines, stations, patterns, feeds, ports -/

/-- The 32 lines in line order. -/
def allLines : List (Fin 32) := List.finRange 32

/-- The five feeds in the order F1, F2, F3, F4, FB. -/
def allFeeds : List Feed := [.f1, .f2, .f3, .f4, .fb]

/-- The place of a feed among the five, which is also its code (R187). -/
def feedIndex : Feed → Fin 5
  | .f1 => 0
  | .f2 => 1
  | .f3 => 2
  | .f4 => 3
  | .fb => 4

/-- The place of a port among the three. -/
def portIndex : Port → Fin 3
  | .a => 0
  | .b => 1
  | .m => 2

/-- A port is a plane when it is Port A or Port B (R143). -/
def isPlane : Port → Bool
  | .m => false
  | _ => true

/-- The other plane; Port M has none and is left as it is (R153). -/
def otherPlane : Port → Port
  | .a => .b
  | .b => .a
  | .m => .m

def State.line (s : State) (l : Fin 32) : Line := s.lines.get l

def State.station (s : State) (i : Fin 192) : Station := s.stations.get i

def State.pattern (s : State) (k : Fin 16) : Pattern := s.patterns.get k

def State.feed (s : State) (f : Feed) : FeedRecord := s.feeds.get (feedIndex f)

def State.port (s : State) (p : Port) : PortRecord := s.ports.get (portIndex p)

/-- Change the record of one line. -/
def State.modLine (s : State) (l : Fin 32) (g : Line → Line) : State :=
  { s with lines := s.lines.set l (g (s.line l)) }

/-- Replace one station record. -/
def State.setStation (s : State) (i : Fin 192) (x : Station) : State :=
  { s with stations := s.stations.set i x }

/-- Replace one pattern record. -/
def State.setPattern (s : State) (k : Fin 16) (x : Pattern) : State :=
  { s with patterns := s.patterns.set k x }

/-- Change the record of one feed. -/
def State.modFeed (s : State) (f : Feed) (g : FeedRecord → FeedRecord) : State :=
  { s with feeds := s.feeds.set (feedIndex f) (g (s.feed f)) }

/-- Change the record of one port. -/
def State.modPort (s : State) (p : Port) (g : PortRecord → PortRecord) : State :=
  { s with ports := s.ports.set (portIndex p) (g (s.port p)) }

/-- A plane's service state; Port M is always in service (R143). -/
def State.inService (s : State) : Port → Bool
  | .a => s.serviceA == .inService
  | .b => s.serviceB == .inService
  | .m => true

/-- Set a plane's service state; Port M has none (R143). -/
def State.setService (s : State) (p : Port) (v : Service) : State :=
  match p with
  | .a => { s with serviceA := v }
  | .b => { s with serviceB := v }
  | .m => s

/-! ### Jobs, reverts and findings -/

/-- The job of a line, if any: no two jobs are for one line (R45). -/
def State.job? (s : State) (l : Fin 32) : Option Job := s.jobs.find? fun j => j.line == l

/-- The revert of a line, if any: no two reverts are for one line (R93). -/
def State.revert? (s : State) (l : Fin 32) : Option Revert := s.reverts.find? fun r => r.line == l

/-- Change the job of a line, keeping its place in the arrival list (R48). -/
def State.modJob (s : State) (l : Fin 32) (g : Job → Job) : State :=
  { s with jobs := s.jobs.map fun j => if j.line = l then g j else j }

/-- A new job joins the arrival list at its tail (R48). -/
def State.addJob (s : State) (j : Job) : State := { s with jobs := s.jobs ++ [j] }

/-- The job of a line leaves the pool and the arrival list (R48, R71). -/
def State.dropJob (s : State) (l : Fin 32) : State :=
  { s with jobs := s.jobs.filter fun j => j.line != l }

/-- Change the revert of a line. -/
def State.modRevert (s : State) (l : Fin 32) (g : Revert → Revert) : State :=
  { s with reverts := s.reverts.map fun r => if r.line = l then g r else r }

/-- A revert record is taken (R92, log 24). -/
def State.addRevert (s : State) (r : Revert) : State := { s with reverts := s.reverts ++ [r] }

/-- The revert of a line is freed (R92). -/
def State.dropRevert (s : State) (l : Fin 32) : State :=
  { s with reverts := s.reverts.filter fun r => r.line != l }

/-- A finding is made at a sample, to be handed on by a taking of its own (R86). -/
def State.makeFinding (s : State) (l : Fin 32) (k : FindingKind) : State :=
  { s with findings := s.findings ++ [⟨l, k⟩] }

/-- The oldest finding of a line that is still to be handed on (log 9). -/
def State.nextFinding (s : State) (l : Fin 32) : Option FindingKind :=
  (s.findings.find? fun x => x.line == l).map (·.kind)

/-- The oldest finding of a line is taken. -/
def State.takeFinding (s : State) (l : Fin 32) : State :=
  { s with findings := s.findings.eraseP fun x => x.line == l }

/-- The findings of a line are dropped without effect (R86, R90). -/
def State.dropFindings (s : State) (l : Fin 32) : State :=
  { s with findings := s.findings.filter fun x => x.line != l }

/-- A list of findings without those of a line up to and including its oldest on-hook finding. -/
def voidedFindings (l : Fin 32) : List Finding → List Finding
  | [] => []
  | x :: rest =>
    if x.line = l then if x.kind = .onHook then rest else voidedFindings l rest else x :: voidedFindings l rest

/-- The findings of a line up to and including its oldest on-hook finding come to nothing (R86, log 30). -/
def State.voidFindings (s : State) (l : Fin 32) : State := { s with findings := voidedFindings l s.findings }

/-! ### Events (R155, R165, R166) -/

/-- A detail of two bytes, the high one first (R188). -/
def detail (hi lo : Byte) : BitVec 16 := hi ++ lo

/-- A copy of an event enters a port's queue, or is discarded and sets the overflow flag (R166). -/
def State.enqueue (s : State) (p : Port) (e : Event) : State :=
  s.modPort p fun r =>
    if r.queue.length < Config.queueSize then { r with queue := r.queue ++ [e] } else { r with overflow := true }

/-- Post to every plane in service (R155). -/
def State.postPlanes (s : State) (e : Event) : State :=
  let t := if s.inService .a then s.enqueue .a e else s
  if s.inService .b then t.enqueue .b e else t

/-- Post to Port M and to every plane in service (R155). -/
def State.postAll (s : State) (e : Event) : State := (s.enqueue .m e).postPlanes e

/-- Post to the binding owner of a line as it stands (R155). -/
def State.postOwner (s : State) (l : Fin 32) (e : Event) : State :=
  match (s.line l).owner with
  | none => s
  | some p => s.enqueue p e

/-- A port's queue and overflow flag are emptied and cleared together (R167). -/
def State.flush (s : State) (p : Port) : State := s.modPort p fun r => { r with queue := [], overflow := false }

/-- An event about a line, stamped with the count as it stands (R165). -/
def State.lineEvent (s : State) (k : EventKind) (l : Fin 32) (d : BitVec 16) : Event :=
  { kind := k, line := some l, party := none, detail := d, serial := none, stamp := s.stamp }

/-- An event about a party of a line. -/
def State.partyEvent (s : State) (k : EventKind) (l : Fin 32) (y : Fin 8) (d : BitVec 16) : Event :=
  { kind := k, line := some l, party := some y, detail := d, serial := none, stamp := s.stamp }

/-- ORIGINATION or ORIGINATION_ABANDONED with the line's current serial (R84, R91). -/
def State.serialEvent (s : State) (k : EventKind) (l : Fin 32) : Event :=
  { kind := k, line := some l, party := none, detail := 0, serial := some (s.line l).serial, stamp := s.stamp }

/-- An event about no line. -/
def State.plainEvent (s : State) (k : EventKind) (d : BitVec 16) : Event :=
  { kind := k, line := none, party := none, detail := d, serial := none, stamp := s.stamp }

/-! ### Fault capture (R170 to R173) -/

/-- The code of a fault kind (R187). -/
def faultCode : FaultKind → Byte
  | .feedFail => 0
  | .relayFault => 1
  | .imageInvalid => 2
  | .saveFailed => 3
  | .referenceLost => 4
  | .batteryCritical => 5

/-- The code of a feed (R187). -/
def feedCode (f : Feed) : Byte := BitVec.ofNat 8 (feedIndex f).val

/-- A kind joins the missed-kind set; a member is not added again (R170). -/
def MissedKinds.add (m : MissedKinds) : FaultKind → MissedKinds
  | .feedFail => { m with feedFail := true }
  | .relayFault => { m with relayFault := true }
  | .imageInvalid => { m with imageInvalid := true }
  | .saveFailed => { m with saveFailed := true }
  | .referenceLost => { m with referenceLost := true }
  | .batteryCritical => { m with batteryCritical := true }

/-- FAULT_CAPTURED: the kind, with the feed for FEED_FAIL and 0xFF otherwise, and the line for RELAY_FAULT
(R173, R188). -/
def State.capturedEvent (s : State) (k : FaultKind) (f : Option Feed) (l : Option (Fin 32)) : Event :=
  { kind := .faultCaptured, line := l, party := none,
    detail := detail (faultCode k) (match f with | some f => feedCode f | none => 0xFF),
    serial := none, stamp := s.stamp }

/-- A fault is reported while the part runs: it fills an EMPTY record and posts FAULT_CAPTURED to Port M, or joins
the missed-kind set of a FULL one (R172, R173). -/
def State.capture (s : State) (k : FaultKind) (f : Option Feed) (l : Option (Fin 32)) : State :=
  match s.faultRecord with
  | none =>
    { s with faultRecord := some { kind := k, feed := f, line := l, stamp := s.stamp } }.enqueue .m
      (s.capturedEvent k f l)
  | some _ => { s with missed := s.missed.add k }

/-! ### The configuration memory (R177, R189) -/

/-- What an address that nothing has written reads as. DESIGN CHOICE, unsafe (log 2). -/
def blankByte : Byte := 0

/-- The byte at an address. -/
def Memory.read (m : Memory) (a : Nat) : Byte :=
  match m with
  | [] => blankByte
  | (b, v) :: rest => if a = b then v else Memory.read rest a

/-- Put a byte at an address, addresses kept strictly rising. -/
def Memory.insert (m : Memory) (a : Nat) (v : Byte) : Memory :=
  match m with
  | [] => [(a, v)]
  | (b, w) :: rest =>
    if a < b then (a, v) :: (b, w) :: rest
    else if a = b then (a, v) :: rest
    else (b, w) :: Memory.insert rest a v

/-- Write a byte; an address written with what it reads as unwritten is not listed. -/
def Memory.write (m : Memory) (a : Nat) (v : Byte) : Memory :=
  if v = blankByte then m.filter fun c => c.1 != a else Memory.insert m a v

/-- Write several bytes, in order. -/
def Memory.writeAll (m : Memory) (cells : List Host.Cell) : Memory :=
  cells.foldl (fun m c => Memory.write m c.1 c.2) m

/-- The canonical form: addresses strictly rising, no entry equal to what an unlisted address reads as. -/
def Memory.wf (m : Memory) : Bool :=
  decide (m.Pairwise fun x y => x.1 < y.1) && m.all fun c => c.2 != blankByte

end Sys2Proof.Machine
end

