-- ==== Sys2Proof/Machine/Operands.lean ====
section
/-! DEFINITION. How an argument byte of a request is read (R187): a number in its range, a code of its field, or a
value that the owning rule clamps or saturates. `none` is a byte outside the field's range or codes. -/

namespace Sys2Proof.Machine

/-- A byte that names one of the numbers 0 to n−1. -/
def argBelow (n : Nat) (b : Byte) : Option (Fin n) := if h : b.toNat < n then some ⟨b.toNat, h⟩ else none

/-- A line 0 to 31. -/
def argLine (b : Byte) : Option (Fin 32) := argBelow 32 b

/-- A party 0 to 7. -/
def argParty (b : Byte) : Option (Fin 8) := argBelow 8 b

/-- A pattern P0 to P15. -/
def argPattern (b : Byte) : Option (Fin 16) := argBelow 16 b

/-- A station base 0 to 191. -/
def argBase (b : Byte) : Option (Fin 192) := argBelow 192 b

/-- A yes/no, set/clear or on/off byte (R187). -/
def argYes (b : Byte) : Option Bool :=
  if b = 1 then some true else if b = 0 then some false else none

/-- A feed code 0 to 4 (R187). -/
def argFeed (b : Byte) : Option Feed :=
  if b = 0 then some .f1 else if b = 1 then some .f2 else if b = 2 then some .f3
  else if b = 3 then some .f4 else if b = 4 then some .fb else none

/-- A home feed: F1 to F4 (R10). -/
def argHome (b : Byte) : Option Feed :=
  match argFeed b with
  | some .fb => none
  | r => r

/-- A side code 0 to 2 (R187). -/
def argSide (b : Byte) : Option Side :=
  if b = 0 then some .tip else if b = 1 then some .ring else if b = 2 then some .loop else none

/-- The admin value a request may carry: DISABLED or ENABLED (R11). -/
def argAdmin (b : Byte) : Option Admin :=
  if b = 0 then some .disabled else if b = 1 then some .enabled else none

/-- A queue policy (R49, R187). -/
def argPolicy (b : Byte) : Option Policy :=
  if b = 0 then some .byClass else if b = 1 then some .byArrival else none

/-- A plane's class: 0 is raised to 1, values above 3 are saturated to 3 (R51, R67). -/
def planeClass (b : Byte) : Fin 4 :=
  if b.toNat ≤ 1 then 1 else if b.toNat = 2 then 2 else 3

/-- The class of a RING: from a plane as `planeClass`, from Port M forced to 0 (R51). -/
def ringClass (p : Port) (b : Byte) : Fin 4 := if isPlane p then planeClass b else 0

/-- The frame limit of a RING or REVERT: 0 is replaced by the line's default, values above 60 are saturated to 60
(R51, R95). -/
def clampLimit (dflt : Nat) (b : Byte) : Nat := if b.toNat = 0 then dflt else min b.toNat 60

/-- The default frame limit of WRITE_LINE: a value above 60 is stored as 60 (R11). -/
def saturateLimit (b : Byte) : Nat := min b.toNat 60

/-- The ringer load of WRITE_STATION: a value above 50 is stored as 50 (R15). -/
def saturateLoad (b : Byte) : Nat := min b.toNat 50

/-- The top of a feed's nominal capacity: 600 for F1 to F4, 200 for FB (R33). -/
def capacityTop : Feed → Nat
  | .fb => 200
  | _ => 600

/-- A nominal capacity is saturated to the top of its range (R33). -/
def saturateCapacity (f : Feed) (n : Nat) : Nat := min n (capacityTop f)

end Sys2Proof.Machine
end

