-- ==== Sys2Proof/Machine/Layout.lean ====
section
/-! DEFINITION. The codes of field values (R187), the layouts of records, events and payloads (R188, R189), and the
reading of image records (R22, R25, R49, R116). -/

namespace Sys2Proof.Machine

/-- The status of a response, in the order of the status table (09, 9.3). -/
inductive Status where
  | ok | accepted | notReady | badRequest | badArgument | notPermitted | notInService | lineDisabled | lineFaulted
  | notBound | heldByOther | stale | lineBusy | lineOffHook | lineOnHook | stationDisabled | poolFull | revertFull
  | noJob | noRevert | inUse | badRange | overlap | badPattern | saveBusy | hasBindings
  deriving DecidableEq, Repr

/-- STATUS runs from 0x00 to 0x19 in the order of the status table (R187). -/
def statusCode : Status → Byte
  | .ok => 0x00
  | .accepted => 0x01
  | .notReady => 0x02
  | .badRequest => 0x03
  | .badArgument => 0x04
  | .notPermitted => 0x05
  | .notInService => 0x06
  | .lineDisabled => 0x07
  | .lineFaulted => 0x08
  | .notBound => 0x09
  | .heldByOther => 0x0A
  | .stale => 0x0B
  | .lineBusy => 0x0C
  | .lineOffHook => 0x0D
  | .lineOnHook => 0x0E
  | .stationDisabled => 0x0F
  | .poolFull => 0x10
  | .revertFull => 0x11
  | .noJob => 0x12
  | .noRevert => 0x13
  | .inUse => 0x14
  | .badRange => 0x15
  | .overlap => 0x16
  | .badPattern => 0x17
  | .saveBusy => 0x18
  | .hasBindings => 0x19

/-! ### Codes of field values (R187) -/

def byteOf (n : Nat) : Byte := BitVec.ofNat 8 n

/-- A two-byte value, high byte first. -/
def wordBytes (n : Nat) : List Byte := [byteOf (n / 256), byteOf n]

/-- The two bytes of a 16-bit value, high byte first. -/
def bytesOf (w : BitVec 16) : List Byte := [w.extractLsb' 8 8, w.extractLsb' 0 8]

/-- A byte that carries an absent value holds 0xFF. -/
def absent : Byte := 0xFF

def yesCode (b : Bool) : Byte := if b then 1 else 0

def adminCode : Admin → Byte
  | .disabled => 0
  | .enabled => 1
  | .faulted => 2

def supervisionCode : Supervision → Byte
  | .unscanned => 0
  | .onHook => 1
  | .closing => 2
  | .offHook => 3
  | .opening => 4

def portCode : Port → Byte
  | .a => 1
  | .b => 2
  | .m => 3

def ownerCode : Option Port → Byte
  | none => 0
  | some p => portCode p

def sideCode : Side → Byte
  | .tip => 0
  | .ring => 1
  | .loop => 2

def jobStateCode : JobState → Byte
  | .reserved => 0
  | .waiting => 1
  | .placed => 2
  | .ringing => 3
  | .suspended => 4

def revertStateCode : RevertState → Byte
  | .awaitHangup => 0
  | .ringingCalled => 1
  | .ringingCaller => 2

def turnCode : Turn → Byte
  | .called => 0
  | .caller => 1

def levelCode : Level → Byte
  | .normal => 0
  | .low => 1
  | .critical => 2

def referenceCode : ReferenceState → Byte
  | .present => 0
  | .lost => 1

def feedStateCode : FeedState → Byte
  | .good => 0
  | .failed => 1

def serviceCode : Service → Byte
  | .outOfService => 0
  | .inService => 1

def policyCode : Policy → Byte
  | .byClass => 0
  | .byArrival => 1

def sourceCode : ConfigSource → Byte
  | .image => 0
  | .defaults => 1

/-- The missed-kind set as a byte: bit n stands for fault kind n. -/
def missedByte (m : MissedKinds) : Byte :=
  yesCode m.feedFail ||| yesCode m.relayFault <<< 1 ||| yesCode m.imageInvalid <<< 2 |||
    yesCode m.saveFailed <<< 3 ||| yesCode m.referenceLost <<< 4 ||| yesCode m.batteryCritical <<< 5

/-- The reset cause set as a byte: POWER, SUPPLY, PIN, COMMANDED in bits 0 to 3. -/
def causeByte (c : Causes) : Byte :=
  yesCode c.power ||| yesCode c.supply <<< 1 ||| yesCode c.pin <<< 2 ||| yesCode c.commanded <<< 3

/-- Event kinds are coded 0x01 to 0x11 in the order of the event table (R188). -/
def eventCode : EventKind → Byte
  | .origination => 0x01
  | .originationAbandoned => 0x02
  | .lineOffHook => 0x03
  | .lineOnHook => 0x04
  | .lineFlash => 0x05
  | .ringAnswered => 0x06
  | .ringEnded => 0x07
  | .ringProgress => 0x08
  | .revertRinging => 0x09
  | .revertAnswered => 0x0A
  | .revertEnded => 0x0B
  | .feedState => 0x0C
  | .batteryState => 0x0D
  | .referenceState => 0x0E
  | .faultCaptured => 0x0F
  | .saveDone => 0x10
  | .start => 0x11

/-- An optional number, 0xFF when absent. -/
def optByte {n : Nat} : Option (Fin n) → Byte
  | none => absent
  | some i => byteOf i.val

def optFeed : Option Feed → Byte
  | none => absent
  | some f => feedCode f

/-! ### Records (R188, R189) -/

/-- The 9 bytes of an event record (R188). -/
def eventBytes (e : Event) : List Byte :=
  [eventCode e.kind,
   yesCode e.line.isSome ||| yesCode e.party.isSome <<< 1 ||| yesCode e.serial.isSome <<< 2,
   (match e.line with | some l => byteOf l.val | none => 0),
   (match e.party with | some y => byteOf y.val | none => 0)] ++
  bytesOf e.detail ++ [e.serial.getD 0] ++ bytesOf e.stamp

/-- The 6 bytes of a line record; in a payload the admin byte may hold 2, FAULTED (R188, R189). -/
def lineBytes (d : Descriptor) : List Byte :=
  [adminCode d.admin, byteOf d.base.val, byteOf d.count, byteOf d.allowance, byteOf d.frameLimit, yesCode d.guarded]

/-- The 4 bytes of a station record (R189). -/
def stationBytes (x : Station) : List Byte :=
  [yesCode x.enabled ||| yesCode x.selective <<< 1 ||| yesCode x.guarded <<< 2,
   feedCode x.home ||| sideCode x.side <<< 4, byteOf x.pattern.val, byteOf x.load]

/-- The on and off bytes of the first `n` burst pairs, zero in the unused pairs (R189). -/
def burstBytes : Nat → List Burst → List Byte
  | 0, _ => []
  | n + 1, [] => 0 :: 0 :: burstBytes n []
  | n + 1, b :: rest => byteOf b.on :: byteOf b.off :: burstBytes n rest

/-- The 9 bytes of a pattern record (R189). -/
def patternBytes (x : Pattern) : List Byte := byteOf x.bursts.length :: burstBytes 4 x.bursts

/-- The 4 bytes of a feed record; the fallback byte of FB is 0 (R189). -/
def feedBytes (f : Feed) (x : FeedRecord) : List Byte :=
  byteOf x.freq :: wordBytes x.capacity ++ [if f = .fb then 0 else yesCode x.fallback]

/-- The relay-drive byte: 0xFF for NONE, else the feed code in bits 4 to 7 and the side code in bits 0 to 3 (R188). -/
def driveByte : Option Drive → Byte
  | none => absent
  | some d => feedCode d.feed <<< 4 ||| sideCode d.side

/-- The job summary (R72, R188): 19 bytes, all 0 when there is no job. `position` is its place in the arrival
list. -/
def jobSummary : Option Job → Nat → List Byte
  | none, _ => List.replicate 19 0
  | some j, position =>
    [1, jobStateCode j.state, portCode j.owner, byteOf j.cls.val, byteOf j.party.val, optByte j.station,
     optByte j.pattern, (match j.load with | some n => byteOf n | none => absent), optFeed j.home, optFeed j.current,
     optByte j.phase, byteOf j.framesRung, byteOf j.frameLimit, yesCode j.progress] ++ wordBytes j.waitTimer ++
    [byteOf j.shedCount, byteOf position, (match j.turn with | some t => turnCode t | none => absent)]

/-- The revert summary (R115, R188): 9 bytes, all 0 when there is no revert. -/
def revertSummary : Option Revert → List Byte
  | none => List.replicate 9 0
  | some r =>
    [1, byteOf r.caller.val, byteOf r.called.val, yesCode r.ringCaller, portCode r.owner, revertStateCode r.state] ++
    wordBytes r.hangupTimer ++ [byteOf r.frameLimit]

/-- The last-burst record in FEED_STATUS: present, line, party, stamp, each absent value 0xFF (R187, R188, log 18). -/
def burstMarkBytes : Option BurstMark → List Byte
  | none => [0, absent, absent, absent, absent]
  | some b => [1, byteOf b.line.val, byteOf b.party.val] ++ bytesOf b.stamp

/-- The READ_FAULT payload: the fields of an EMPTY record are 0 (R188). -/
def faultBytes (r : Option FaultRecord) (m : MissedKinds) : List Byte :=
  match r with
  | none => [0, 0, 0, 0, 0, 0, missedByte m]
  | some x => [1, faultCode x.kind, optFeed x.feed, optByte x.line] ++ bytesOf x.stamp ++ [missedByte m]

/-! ### The image (R177, R182, R189) -/

/-- The body of the image: lines (a FAULTED one stored as ENABLED), stations, patterns, feeds, policy (R182). -/
def State.imageBody (s : State) : List Byte :=
  (s.lines.toList.flatMap fun x =>
    lineBytes { x.desc with admin := if x.desc.admin = .faulted then .enabled else x.desc.admin }) ++
  s.stations.toList.flatMap stationBytes ++ s.patterns.toList.flatMap patternBytes ++
  (allFeeds.flatMap fun f => feedBytes f (s.feed f)) ++ [policyCode s.policy]

/-- The image check: the sum of the body bytes modulo 65,536 (R177). -/
def imageCheck (body : List Byte) : Nat := (body.map BitVec.toNat).sum % 65536

/-- The 1133 bytes a SAVE writes: signature, version 1, both section flags, length, check, body (R182, R189). -/
def State.imageBytes (s : State) : List Byte :=
  [Config.signature.1, Config.signature.2, 1, 3] ++ wordBytes Config.imageSize ++ wordBytes (imageCheck s.imageBody) ++
    s.imageBody

/-- The bytes of the image body as the memory holds them. -/
def storedBody (m : Memory) : List Byte := (List.range 1125).map fun i => Memory.read m (8 + i)

/-- A two-byte value of the memory, high byte first. -/
def storedWord (m : Memory) (a : Nat) : Nat := (Memory.read m a).toNat * 256 + (Memory.read m (a + 1)).toNat

/-- An image is valid by its signature, version, length and check (R177). -/
def imageValid (m : Memory) : Bool :=
  Memory.read m 0 == Config.signature.1 && Memory.read m 1 == Config.signature.2 && Memory.read m 2 == 1 &&
    storedWord m 4 == Config.imageSize && storedWord m 6 == imageCheck (storedBody m)

/-- A line record of the image, or none where R22 replaces it whatever the other lines hold. A default frame limit
above 60 is loaded as 60; any non-zero protected byte is yes (R22, R189). -/
def readLineRecord (m : Memory) (n : Fin 32) : Option Descriptor :=
  let a := 8 + 6 * n.val
  let count := (Memory.read m (a + 2)).toNat
  let allowance := (Memory.read m (a + 3)).toNat
  let limit := (Memory.read m (a + 4)).toNat
  match argAdmin (Memory.read m a), argBase (Memory.read m (a + 1)) with
  | some admin, some base =>
    if count ≤ 8 ∧ allowance ≤ 30 ∧ limit ≠ 0 ∧ base.val + count ≤ 192 ∧ ¬(admin = .enabled ∧ count = 0) then
      some { admin := admin, base := base, count := count, allowance := allowance, frameLimit := min limit 60,
             guarded := Memory.read m (a + 5) != 0 }
    else none
  | _, _ => none

/-- A station record of the image, the default where a code is outside its range or the load is 0; a load above 50
is loaded as 50 (R22, R189). -/
def readStationRecord (m : Memory) (i : Fin 192) : Station :=
  let a := 200 + 4 * i.val
  let flags := Memory.read m a
  let codes := Memory.read m (a + 1)
  let load := (Memory.read m (a + 3)).toNat
  match argHome (codes &&& 0x0F), argSide (codes >>> 4), argPattern (Memory.read m (a + 2)) with
  | some home, some side, some pattern =>
    if load = 0 then .default
    else { enabled := flags.getLsbD 0, home := home, side := side, pattern := pattern, load := min load 50,
           selective := flags.getLsbD 1, guarded := flags.getLsbD 2 }
  | _, _, _ => .default

/-- A list of bursts within the ranges of R23 for each burst. -/
def burstsInRange (bursts : List Burst) : Bool := bursts.all fun b => decide (2 ≤ b.on ∧ b.on ≤ 20 ∧ b.off ≤ 58)

/-- A list of bursts within the two sums of R23. -/
def burstsWithinSums (bursts : List Burst) : Bool :=
  decide ((bursts.map fun b => b.on + b.off).sum ≤ 60) && decide ((bursts.map (·.on)).sum ≤ 30)

/-- A pattern record of the image, the default of its index where R25 replaces it. -/
def readPatternRecord (m : Memory) (k : Fin 16) : Pattern :=
  let a := 968 + 9 * k.val
  let count := (Memory.read m a).toNat
  let bursts := (List.range (min count 4)).map fun i =>
    Burst.mk (Memory.read m (a + 1 + 2 * i)).toNat (Memory.read m (a + 2 + 2 * i)).toNat
  if 1 ≤ count ∧ count ≤ 4 ∧ burstsInRange bursts ∧ burstsWithinSums bursts then ⟨bursts⟩ else .default k

/-- A feed record of the image with the runtime values of a reset: a frequency code above 5 is loaded as 1, a capacity
above its range is saturated, the fallback byte of FB is not read (R33, R116, R189). -/
def readFeedRecord (m : Memory) (f : Feed) : FeedRecord :=
  let a := 1112 + 4 * (feedIndex f).val
  let freq := (Memory.read m a).toNat
  { FeedRecord.reset with
    freq := if freq ≤ 5 then freq else 1
    capacity := saturateCapacity f (storedWord m (a + 1))
    fallback := f != .fb && Memory.read m (a + 3) != 0 }

/-- The policy byte: 0 CLASS, 1 ARRIVAL, any other value CLASS (R49, R189). -/
def readPolicy (m : Memory) : Policy := (argPolicy (Memory.read m 1132)).getD .byClass

end Sys2Proof.Machine
end

