-- ==== Sys2Proof/Machine/Flags.lean ====
section
/-! DEFINITION. The conditions the rules test, each computed from the records: the job and revert fields (R9), the
attention lines (R169), a line's supervision as requests and endings meet it (R86), an outstanding origination (R12,
R84, R146), a SAVE in flight (R184), references to stations and patterns (R16, R27), overlapping ranges (R7). -/

namespace Sys2Proof.Machine

/-- The job field of a line: the pool holds a job for it, in any state (R9). -/
def State.hasJob (s : State) (l : Fin 32) : Bool := (s.job? l).isSome

/-- The revert field of a line: the revert table holds a record for it (R9). -/
def State.hasRevert (s : State) (l : Fin 32) : Bool := (s.revert? l).isSome

/-- A port's attention line: its queue holds an event or its overflow flag is set (R169). -/
def State.attention (s : State) (p : Port) : Bool := !(s.port p).queue.isEmpty || (s.port p).overflow

/-- A SAVE is in flight (R182). -/
def State.saving (s : State) : Bool := s.save.isSome

/-- Supervision OFF_HOOK or OPENING: off-hook for other blocks (R76). -/
def isOffHook : Supervision → Bool
  | .offHook | .opening => true
  | _ => false

/-- The supervision a finding still to be handed on leaves the line in for everything but the scanner: off-hook until
an on-hook finding is handed on (R86, R97, R112, R147), and off-hook from the sample of an off-hook or trip finding on
(R53, R81). -/
def supervisionBefore : FindingKind → Supervision
  | .onHook => .opening
  | .offHook | .trip | .flash _ => .offHook

/-- The supervision of a line as requests, endings and the outstanding test meet it: the scanner's own state where no
finding of the line waits, and otherwise the state that the oldest of them leaves it in. The scanner and LINE_STATUS
read the field itself (R8, R76). DEDUCED, unsafe (log 30). -/
def State.seen (s : State) (l : Fin 32) : Supervision :=
  match s.nextFinding l with
  | some k => supervisionBefore k
  | none => (s.line l).supervision

/-- An off-hook or trip finding is the next of the line's to be handed on, so that the origination it may raise is still
to be raised (R53, R84, R86). -/
def State.findingDue (s : State) (l : Fin 32) : Bool :=
  s.nextFinding l == some .offHook || s.nextFinding l == some .trip

/-- ENABLED, unbound, not parked, with neither job nor revert (R80, R82). -/
def State.offered (s : State) (l : Fin 32) : Bool :=
  (s.line l).desc.admin == .enabled && (s.line l).owner.isNone && !(s.line l).parked && !s.hasJob l && !s.hasRevert l

/-- An origination is outstanding on the line (R12, R84, R146): it is offered, its supervision is OFF_HOOK or OPENING as
`State.seen` gives it, and the finding that raises it has been taken. DEDUCED, unsafe (logs 10 and 30). -/
def State.outstanding (s : State) (l : Fin 32) : Bool :=
  s.offered l && isOffHook (s.seen l) && !s.findingDue l

/-- The pool index of a party of a line: station base + party for a party below the party count (R4). A sum past the
pool, which R7 keeps away, gives none (log 28). -/
def stationIndex (d : Descriptor) (y : Fin 8) : Option (Fin 192) :=
  if h : y.val < d.count ∧ d.base.val + y.val < 192 then some ⟨d.base.val + y.val, h.2⟩ else none

/-- A station is referenced by the line's job, or by the line's revert through the party (R16). -/
def State.stationReferenced (s : State) (l : Fin 32) (y : Fin 8) (i : Fin 192) : Bool :=
  (match s.job? l with | some j => j.station == some i | none => false) ||
  (match s.revert? l with | some r => r.caller == y || r.called == y | none => false)

/-- The station of a party of a line names the pattern. -/
def State.partyUsesPattern (s : State) (l : Fin 32) (y : Fin 8) (k : Fin 16) : Bool :=
  match stationIndex (s.line l).desc y with
  | some i => (s.station i).pattern == k
  | none => false

/-- A pattern is in use: a job in the pool holds it, or it is the pattern of a revert's caller or called station
(R27). -/
def State.patternInUse (s : State) (k : Fin 16) : Bool :=
  (s.jobs.any fun j => j.pattern == some k) ||
  s.reverts.any fun r => s.partyUsesPattern r.line r.caller k || s.partyUsesPattern r.line r.called k

/-- The ranges of two descriptors share an index: both party counts are above 0 and the runs meet (R7). -/
def rangesOverlap (d e : Descriptor) : Bool :=
  decide (0 < d.count ∧ 0 < e.count ∧ d.base.val < e.base.val + e.count ∧ e.base.val < d.base.val + d.count)

/-- A descriptor's range overlaps that of another line, whatever that line's admin state (R7). -/
def State.overlapsOther (s : State) (l : Fin 32) (d : Descriptor) : Bool :=
  allLines.any fun k => k != l && rangesOverlap d (s.line k).desc

/-- How many lines are bound to a port. -/
def State.boundCount (s : State) (p : Port) : Nat := (allLines.filter fun l => (s.line l).owner == some p).length

end Sys2Proof.Machine
end

