-- ==== Sys2Proof/Machine/Scheduler.lean ====
section
/-! DEFINITION. The ring scheduler's arithmetic and its shared operations (chapters 2 and 3): on-sets, profiles,
effective capacity, the fit test and phase search, placement passes, target selection, shedding, bursts. -/

namespace Sys2Proof.Machine

/-! ### On-sets (R24, R30) -/

/-- The ticks at which bursts ring, the first beginning at `start`. -/
def onTicks (start : Nat) : List Burst → List Nat
  | [] => []
  | b :: rest => (List.range b.on).map (start + ·) ++ onTicks (start + b.on + b.off) rest

/-- The on-set O(P) of a pattern (R24). -/
def onSet (x : Pattern) : List Nat := onTicks 0 x.bursts

/-- The absolute on-set A(P, φ) of a pattern at a phase (R30). -/
def absoluteOnSet (x : Pattern) (ph : Fin 12) : List Nat := (onSet x).map fun u => (u + 5 * ph.val) % 60

/-- The cadence position at which a phase begins (R30). -/
def boundary (ph : Fin 12) : Nat := 5 * ph.val

/-! ### Capacities and profiles (R34, R35, R132) -/

/-- The derating factor k of a level (R132). -/
def derating : Level → Nat
  | .normal => 100
  | .low => 75
  | .critical => 40

/-- The effective capacity of a feed: floor(C × k / 100) (R34). -/
def State.effectiveCapacity (s : State) (f : Feed) : Nat := (s.feed f).capacity * derating s.battery.level / 100

/-- A job holds a reservation: it is PLACED or RINGING (R50). -/
def Job.placed (j : Job) : Bool := j.state == .placed || j.state == .ringing

/-- The cadence positions at which a job rings at its phase; none without a pattern and a phase. -/
def State.jobTicks (s : State) (j : Job) : List Nat :=
  match j.pattern, j.phase with
  | some k, some ph => absoluteOnSet (s.pattern k) ph
  | _, _ => []

/-- What a job adds to the profile of a feed at a position: its load where it is PLACED or RINGING, its current feed
is that feed and its absolute on-set contains the position (R35). -/
def State.loadAt (s : State) (f : Feed) (t : Nat) (j : Job) : Nat :=
  if j.placed && j.current == some f && (s.jobTicks j).contains t then j.load.getD 0 else 0

/-- The profile entry S(f, t) (R35). -/
def State.profile (s : State) (f : Feed) (t : Nat) : Nat := (s.jobs.map (s.loadAt f t)).sum

/-- The profile peak: the largest of the sixty entries (R35). -/
def State.peak (s : State) (f : Feed) : Nat := ((List.range 60).map (s.profile f)).foldl max 0

/-! ### Fit test, phase search, placement passes (R36 to R39, R55) -/

/-- A load with a pattern fits a feed at a phase (R36). -/
def State.fits (s : State) (f : Feed) (x : Pattern) (load : Nat) (ph : Fin 12) : Bool :=
  (absoluteOnSet x ph).all fun t => decide (s.profile f t + load ≤ s.effectiveCapacity f)

/-- The twelve candidates in the order they are tried, from the first boundary after the position (R37). -/
def phaseCandidates (pos : Fin 60) : List (Fin 12) :=
  (List.range 12).map fun i => Fin.ofNat 12 (pos.val / 5 + 1 + i)

/-- The first candidate that fits, if any (R37). -/
def State.findPhase (s : State) (f : Feed) (x : Pattern) (load : Nat) : Option (Fin 12) :=
  (phaseCandidates s.pos).find? (s.fits f x load)

/-- Ticks from a position to the next boundary of a phase, 1 to 60 (R37). -/
def ticksToBoundary (pos : Fin 60) (ph : Fin 12) : Nat :=
  let d := (boundary ph + 60 - pos.val) % 60
  if d = 0 then 60 else d

/-- The class gate passes over a job of class 0 or 1 while the level is CRITICAL (R39). -/
def State.gated (s : State) (j : Job) : Bool := s.battery.level == .critical && decide (j.cls.val ≤ 1)

/-- The phase a pass finds for the job of a line: for a WAITING job that is not gated, by the search of R37. -/
def State.phaseFor (s : State) (j : Job) : Option (Fin 12) :=
  if j.state = .waiting ∧ s.gated j = false then
    match j.current, j.pattern, j.load with
    | some f, some k, some n => s.findPhase f (s.pattern k) n
    | _, _, _ => none
  else none

/-- A pass tests the job of one line and places it if a phase is found (R38, R55). -/
def State.tryPlace (s : State) (l : Fin 32) : State :=
  match s.job? l with
  | none => s
  | some j =>
    match s.phaseFor j with
    | none => s
    | some ph => s.modJob l fun j => { j with state := .placed, phase := some ph }

/-- The lines of the WAITING jobs of one class, in arrival order. -/
def State.waitingOfClass (s : State) (c : Fin 4) : List (Fin 32) :=
  (s.jobs.filter fun j => j.state == .waiting && j.cls == c).map (·.line)

/-- The queue in the order of the policy in force (R49). -/
def State.queue (s : State) : List (Fin 32) :=
  match s.policy with
  | .byArrival => (s.jobs.filter fun j => j.state == .waiting).map (·.line)
  | .byClass => s.waitingOfClass 3 ++ s.waitingOfClass 2 ++ s.waitingOfClass 1 ++ s.waitingOfClass 0

/-- One placement pass: one walk of the queue (R38). -/
def State.pass (s : State) : State := s.queue.foldl State.tryPlace s

/-- A placement pass where the event calls for one (R54). -/
def State.passIf (s : State) (b : Bool) : State := if b then s.pass else s

/-! ### Target selection (R47) -/

/-- Target selection by the states of the home feed and of FB as they stand: the job's state and current feed. -/
def State.target (s : State) (home : Feed) (selective : Bool) : JobState × Option Feed :=
  if (s.feed home).state = .good then (.waiting, some home)
  else if selective = false ∧ (s.feed home).fallback = true ∧ (s.feed .fb).state = .good then (.waiting, some .fb)
  else (.suspended, none)

/-- Whether the station of a job is selective (R10). -/
def State.jobSelective (s : State) (j : Job) : Bool :=
  match j.station with
  | some i => (s.station i).selective
  | none => false

/-- Target selection applied to a job that holds station properties: no phase, wait timer 0 (R47, R61). -/
def State.selectTarget (s : State) (j : Job) : Job :=
  match j.home with
  | none => j
  | some h =>
    let r := s.target h (s.jobSelective j)
    { j with state := r.1, current := r.2, phase := none, waitTimer := 0 }

/-- The job takes the station of a party of its line: party, station, pattern, load and home feed (R32, R46), then
target selection. -/
def State.takeStation (s : State) (y : Fin 8) (j : Job) : Job :=
  match stationIndex (s.line j.line).desc y with
  | none => j
  | some i =>
    let x := s.station i
    s.selectTarget { j with
      party := y, station := some i, pattern := some x.pattern,
      load := some (x.load + (s.line j.line).desc.allowance), home := some x.home }

/-! ### Relay drive and bursts (R57, R58) -/

/-- The relay drive of a line is set to NONE. -/
def State.cutDrive (s : State) (l : Fin 32) : State := s.modLine l fun x => { x with drive := none }

/-- The feed monitor takes a burst start into the feed's last-burst record unless it is frozen (R125). -/
def State.noteBurst (s : State) (f : Feed) (l : Fin 32) (y : Fin 8) : State :=
  s.modFeed f fun x => if x.frozen then x else { x with lastBurst := some ⟨l, y, s.stamp⟩ }

/-- A burst starts on a line: the drive is the job's current feed with the side of its station, and the burst is
handed to the feed monitor (R57). -/
def State.startBurst (s : State) (l : Fin 32) (j : Job) : State :=
  match j.current, j.station with
  | some f, some i => (s.modLine l fun x => { x with drive := some ⟨f, (s.station i).side⟩ }).noteBurst f l j.party
  | _, _ => s

/-- The burst start or burst end that falls at the present position for a RINGING job (R57). A job is inside a burst
while the drive of its line is set (log 29). -/
def State.burstStep (s : State) (l : Fin 32) : State :=
  match s.job? l with
  | none => s
  | some j =>
    if (s.jobTicks j).contains s.pos.val then
      if (s.line l).drive.isNone then s.startBurst l j else s
    else s.cutDrive l

/-! ### Shedding (R40 to R42, R124) -/

/-- What a shed makes of the job: WAITING, no phase, wait timer 0, shed count up by one and saturating at 255 (R41); a
job on FB whose home feed is GOOD takes its home feed (R124). -/
def State.shedJob (s : State) (j : Job) : Job :=
  { j with
    state := .waiting, phase := none, waitTimer := 0, shedCount := min (j.shedCount + 1) 255
    current :=
      match j.home with
      | some h => if j.current = some .fb ∧ (s.feed h).state = .good then some h else j.current
      | none => j.current }

/-- The job of a line is shed (R41). -/
def State.shed (s : State) (l : Fin 32) : State := (s.modJob l s.shedJob).cutDrive l

/-- The overloaded positions of a feed (R40 step 1). -/
def State.overloaded (s : State) (f : Feed) : List Nat :=
  (List.range 60).filter fun t => decide (s.effectiveCapacity f < s.profile f t)

/-- A job is a candidate for shedding on a feed: PLACED or RINGING there and ringing at an overloaded position
(R40 step 2). -/
def State.shedCandidate (s : State) (f : Feed) (j : Job) : Bool :=
  j.placed && j.current == some f && (s.overloaded f).any fun t => (s.jobTicks j).contains t

/-- Of two candidates in arrival order the victim is the later one unless its class is higher (R40 step 2). -/
def laterVictim (best : Option Job) (j : Job) : Option Job :=
  match best with
  | none => some j
  | some b => if j.cls ≤ b.cls then some j else some b

/-- The victim: the lowest class, and among those the latest in the arrival list (R40 step 2). -/
def State.victim (s : State) (f : Feed) : Option Job := (s.jobs.filter (s.shedCandidate f)).foldl laterVictim none

/-- Shed victims one at a time until no position is overloaded (R40); `fuel` bounds the victims by the jobs there
are. -/
def State.shedLoop (s : State) (f : Feed) : Nat → State
  | 0 => s
  | fuel + 1 =>
    match s.victim f with
    | none => s
    | some j => State.shedLoop (s.shed j.line) f fuel

/-- Overload shedding on a feed (R40). -/
def State.shedFeed (s : State) (f : Feed) : State := s.shedLoop f s.jobs.length

/-- Overload shedding on each feed (R42). -/
def State.shedAll (s : State) : State := allFeeds.foldl State.shedFeed s

/-- On entry to CRITICAL every PLACED or RINGING job of class 0 or 1 is shed, in arrival order (R42). -/
def State.shedLowClasses (s : State) : State :=
  ((s.jobs.filter fun j => j.placed && decide (j.cls.val ≤ 1)).map (·.line)).foldl State.shed s

end Sys2Proof.Machine
end

