-- ==== Sys2Proof/Machine/Calls.lean ====
section
/-! DEFINITION. The shared operations on a line's call: endings of jobs and reverts (R70, R71, R109), originations (R84),
the off-hook finding (R64, R80, R107), restart and disabling of supervision (R89, R90), the relay fault (R88). -/

namespace Sys2Proof.Machine

/-- The ways a job or a revert ends (R70, R109). -/
inductive Ending where
  | answered | noAnswer | waitExpired | cancelled | offHookAtStart | lineReset | lineFault | noHangup
  deriving DecidableEq, Repr

/-- The code of an outcome (R187); an answer and a cancel carry none. -/
def endingCode : Ending → Byte
  | .answered => 0
  | .noAnswer => 1
  | .waitExpired => 2
  | .cancelled => 0
  | .offHookAtStart => 3
  | .lineReset => 4
  | .lineFault => 5
  | .noHangup => 6

/-- Whether an ending releases the binding, for the endings whose rule reads the supervision state: NO_ANSWER,
WAIT_EXPIRED and LINE_FAULT release it on an ON_HOOK line and keep it otherwise; the others keep it, a cancel by its
own test and RESET_LINE by its own step (R70, R109). A line whose on-hook finding waits is not ON_HOOK yet, so that a
fault in AWAIT_HANGUP leaves the line with its owner (R113, log 30). -/
def State.endingReleases (s : State) (l : Fin 32) (e : Ending) : Bool :=
  match e with
  | .noAnswer | .waitExpired | .lineFault => s.seen l == .onHook
  | _ => false

/-- The event that reports an ending to the binding owner: RING_ for an ordinary job, REVERT_ for a revert's job,
none for a cancel (R70, R109, R115). -/
def State.endingEvent (s : State) (j : Job) (e : Ending) : Option Event :=
  match e with
  | .cancelled => none
  | .answered =>
    some (s.partyEvent (if j.turn.isSome then .revertAnswered else .ringAnswered) j.line j.party
      (detail 0 (byteOf j.framesRung)))
  | e =>
    some (s.partyEvent (if j.turn.isSome then .revertEnded else .ringEnded) j.line j.party (detail 0 (endingCode e)))

/-- The report of an ending goes to the binding owner as it stands (R71 step 3, R109 step 3). -/
def State.reportEnding (s : State) (l : Fin 32) (e : Ending) : State :=
  match s.job? l with
  | none => s
  | some j =>
    match s.endingEvent j e with
    | none => s
    | some ev => s.postOwner l ev

/-- A released binding sets the owner to NONE and clears parked (R70, R109). -/
def State.releaseBinding (s : State) (l : Fin 32) : State :=
  s.modLine l fun x => { x with owner := none, parked := false }

/-- The binding is released where the ending's rule releases it. -/
def State.releaseIf (s : State) (b : Bool) (l : Fin 32) : State := if b then s.releaseBinding l else s

/-- The job of the line and, for a revert's job, the revert end: drive NONE, reservation gone, report, release, records
freed, in that order (R71, R109). The placement pass is the caller's. -/
def State.endCall (s : State) (l : Fin 32) (e : Ending) (releases : Bool) : State :=
  ((((s.cutDrive l).reportEnding l e).releaseIf releases l).dropJob l).dropRevert l

/-- The job of the line holds a reservation (R50). -/
def State.holdsReservation (s : State) (l : Fin 32) : Bool :=
  match s.job? l with
  | some j => j.placed
  | none => false

/-- An ending outside an expiry: one placement pass runs if a reservation was removed (R54, R71 step 6, R109
step 7). -/
def State.endCallAndPass (s : State) (l : Fin 32) (e : Ending) (releases : Bool) : State :=
  (s.endCall l e releases).passIf (s.holdsReservation l)

/-! ### Originations (R84, R91) -/

/-- An origination is raised: the serial steps, and ORIGINATION with the new serial goes to every plane in service
(R84). -/
def State.raiseOrigination (s : State) (l : Fin 32) : State :=
  let t := s.modLine l fun x => { x with serial := x.serial + 1 }
  t.postPlanes (t.serialEvent .origination l)

/-- ORIGINATION_ABANDONED with the current serial goes to every plane in service. -/
def State.abandonOrigination (s : State) (l : Fin 32) : State :=
  s.postPlanes (s.serialEvent .originationAbandoned l)

/-- The origination of a line is abandoned if one is outstanding (R6, R12, R19). -/
def State.abandonIfOutstanding (s : State) (l : Fin 32) : State :=
  if s.outstanding l then s.abandonOrigination l else s

/-! ### The off-hook finding and the trip finding (R63, R64, R80, R81, R100, R107) -/

/-- The last four rows of R80: a line with neither job nor revert. -/
def State.reportOffHook (s : State) (l : Fin 32) : State :=
  if (s.line l).owner.isSome then s.postOwner l (s.lineEvent .lineOffHook l 0)
  else if s.offered l then s.raiseOrigination l
  else s

/-- An off-hook finding, or a trip finding, is handed on by the state of the line as it stands. A revert in
AWAIT_HANGUP is not changed; in a ringing state it is answered (R100, R107). An ordinary job that is RINGING is
answered, any other ends OFF_HOOK_AT_START (R63, R64). A line with neither is reported (R80, R81). -/
def State.takeOffHook (s : State) (l : Fin 32) : State :=
  match s.revert? l with
  | some r => if r.state = .awaitHangup then s else s.endCallAndPass l .answered false
  | none =>
    match s.job? l with
    | some j =>
      match j.state with
      | .ringing => s.endCallAndPass l .answered false
      | .reserved => s
      | _ => s.endCallAndPass l .offHookAtStart false
    | none => s.reportOffHook l

/-! ### Restart and disabling of supervision (R89, R90) -/

/-- Supervision restarts: ON_HOOK, the scanner's fields cleared, parked cleared; a finding still to be handed on is
dropped (R86, R89). -/
def State.restartLine (s : State) (l : Fin 32) : State :=
  (s.modLine l fun x => { x with supervision := .onHook, parked := false, scan := .reset }).dropFindings l

/-- A line goes DISABLED: UNSCANNED, the scanner's fields and parked cleared, findings dropped (R5, R90). -/
def State.disableLine (s : State) (l : Fin 32) : State :=
  (s.modLine l fun x => { x with supervision := .unscanned, parked := false, scan := .reset }).dropFindings l

/-! ### The relay fault (R6, R65, R88) -/

/-- A relay fault is found on an ENABLED line: FAULTED, drive NONE, an outstanding origination abandoned, then the job
and revert end LINE_FAULT, then fault capture (R6, R88). The outstanding test is made on the line as it was found. -/
def State.takeRelayFault (s : State) (l : Fin 32) : State :=
  let a := s.modLine l fun x => { x with desc := { x.desc with admin := .faulted }, drive := none }
  let b := if s.outstanding l then a.abandonOrigination l else a
  let c :=
    if b.hasJob l || b.hasRevert l then b.endCallAndPass l .lineFault (b.endingReleases l .lineFault) else b
  c.capture .relayFault none (some l)

end Sys2Proof.Machine
end

