-- ==== Sys2Proof/Machine/Link.lean ====
section
/-! DEFINITION. The link interface and the checks of plane and port control (chapters 8 and 9): the frame check, the
receiver, the receive buffer, the permission table, the answer to a request. -/

namespace Sys2Proof.Machine

/-! ### The frame (R157, R158) -/

/-- The SYNC byte (R157). -/
def sync : Byte := 0xA5

/-- One bit of the check computation: the register shifts and takes the polynomial x^16 + x^12 + x^5 + 1 (R158). -/
def crcBit (r : BitVec 16) : BitVec 16 := if r.msb then (r <<< 1) ^^^ 0x1021#16 else r <<< 1

/-- One byte enters the check, most significant bit first (R158). -/
def crcByte (r : BitVec 16) (b : Byte) : BitVec 16 := crcBit^[8] (r ^^^ (b ++ 0#8))

/-- The check over the LEN byte and the body bytes in line order, from 0xFFFF, without inversion (R158). -/
def frameCheck (bytes : List Byte) : BitVec 16 := bytes.foldl crcByte 0xFFFF

/-- The frame of a body: SYNC, LEN, the body, the check high byte first (R157). -/
def frameOf (body : List Byte) : List Byte :=
  sync :: byteOf body.length :: body ++ bytesOf (frameCheck (byteOf body.length :: body))

/-- The bytes a port's transmitter sends for the response in hand (R158, R162). -/
def State.transmitted (s : State) (p : Port) : List Byte :=
  match (s.port p).response with
  | none => []
  | some body => frameOf body

/-- The received check equals the check over LEN and the body (R158). -/
def Receiver.checks (r : Receiver) (low : Byte) : Bool :=
  (r.high.getD 0 ++ low : BitVec 16) == frameCheck (byteOf r.len :: r.body)

/-- A receiver takes one byte with a good stop bit (R157). -/
def Receiver.next (r : Receiver) (b : Byte) : Receiver :=
  match r.state with
  | .hunt => if b = sync then { Receiver.reset with state := .length } else .reset
  | .length =>
    if 2 ≤ b.toNat ∧ b.toNat ≤ 56 then { Receiver.reset with state := .body, len := b.toNat } else .reset
  | .body =>
    { r with body := r.body ++ [b], count := r.count + 1, state := if r.count + 1 = r.len then .check else .body }
  | .check =>
    match r.high with
    | none => { r with high := some b }
    | some _ => .reset

/-- The body of the frame that a byte completes, if it completes one whose check agrees (R157, R158). -/
def Receiver.completes (r : Receiver) (b : Byte) : Option (List Byte) :=
  if r.state = .check ∧ r.high.isSome ∧ r.checks b = true then some r.body else none

/-- A received frame is placed in an empty receive buffer, and discarded silently otherwise (R160). -/
def State.placeFrame (s : State) (p : Port) (body : List Byte) : State :=
  s.modPort p fun r => if r.buffer.isNone then { r with buffer := some ⟨body, false⟩ } else r

/-! ### The permission table (R144, R145) -/

/-- The permission table (R145). -/
def permitted (k : Kind) (p : Port) : Bool :=
  match k with
  | .openPlane | .closePlane | .claim | .takeover | .revert | .cancelRevert | .promote => isPlane p
  | .writePattern | .writeFeed | .resetLine | .setPolicy | .save | .reset | .clearFault | .clearFeedFault
  | .forceSenseLoss | .clearCause => !isPlane p
  | .ring | .cancelRing | .release | .fetch | .lineStatus | .feedStatus | .portStatus | .readLine | .readStation
  | .readPattern | .readFeed | .readFault | .writeLine | .writeStation => true

/-- The requests an out-of-service plane may make (R144). -/
def takenOutOfService : Kind → Bool
  | .openPlane | .lineStatus | .feedStatus | .portStatus => true
  | _ => false

/-! ### Taking a request (R160 to R162) -/

/-- What the owning block gives for a request: the state, the status, and the payload (for OK alone). -/
structure Reply where
  state : State
  status : Status
  payload : List Byte

/-- A refusal: no state changes (R1, R161). -/
def refuse (s : State) (st : Status) : Reply := ⟨s, st, []⟩

/-- The port's frame with this body is the one the link interface takes: the receive buffer is empty and the frame is
placed in it, or it holds this very frame untaken. Any other frame in hand has the new one discarded (R160, log 4). -/
def State.accepts (s : State) (p : Port) (body : List Byte) : Bool :=
  match (s.port p).buffer with
  | none => true
  | some f => !f.taken && f.body == body

/-- The body of a response: TAG, KIND with its top bit set, STATUS, payload (R162). -/
def responseBody (tag kind : Byte) (st : Status) (payload : List Byte) : List Byte :=
  tag :: (kind ||| 0x80) :: statusCode st :: payload

/-- The response to a taken request is in transmission, and the frame stays in the buffer until it is sent (R160,
R162). -/
def State.answer (s : State) (p : Port) (tag kind : Byte) (args : List Byte) (st : Status) (payload : List Byte) :
    State :=
  s.modPort p fun r =>
    { r with buffer := some ⟨tag :: kind :: args, true⟩, response := some (responseBody tag kind st payload) }

/-- A frame is taken as a request, in the order of R161: in HOLD no request is received; a frame that finds another in
hand is discarded; in LOAD the answer is NOT_READY; in RUN the reply of `h` is answered. -/
def takeFrame (p : Port) (tag kind : Byte) (args : List Byte) (h : State → Reply) (s : State) : State :=
  if s.accepts p (tag :: kind :: args) then
    match s.phase with
    | .hold => s
    | .load => s.answer p tag kind args .notReady []
    | .run => (h s).state.answer p tag kind args (h s).status (h s).payload
  else s

/-- Port control checks permission and service state, then the owning block takes the request (R144). -/
def portControl (k : Kind) (p : Port) (h : State → Reply) (s : State) : Reply :=
  if permitted k p = false then refuse s .notPermitted
  else if s.inService p = false ∧ takenOutOfService k = false then refuse s .notInService
  else h s

/-- A request of a known kind with arguments of the right length (R161). -/
def request (k : Kind) (p : Port) (tag : Byte) (args : List Byte) (h : State → Reply) (s : State) : State :=
  takeFrame p tag k.code args (portControl k p h) s

end Sys2Proof.Machine
end

