-- ==== Sys2Proof/Machine/Planes.lean ====
section
/-! DEFINITION. Plane service and line binding: OPEN, CLOSE, CLAIM, RELEASE, TAKEOVER (chapter 8). -/

namespace Sys2Proof.Machine

abbrev Result := Host.Outcome State Fault Refusal

/-- The lines with an outstanding origination, in line order (R146). -/
def State.outstandingLines (s : State) : List (Fin 32) := allLines.filter s.outstanding

/-- A plane that opens is no longer one that has been taken over (R97, R153). -/
def State.endTakenOver (s : State) (p : Port) : State :=
  { s with takenOver := s.takenOver.filter fun x => x.plane != p }

/-- OPEN (R146): the queue is emptied and the flag cleared, the plane is in service, and ORIGINATION goes to this plane
alone for each outstanding origination in line order. The payload is their number and the number of bound lines. -/
def openReply (p : Port) (s : State) : Reply :=
  let t := ((s.flush p).setService p .inService).endTakenOver p
  let offers := t.outstandingLines
  ⟨offers.foldl (fun u l => u.enqueue p (u.serialEvent .origination l)) t, .ok,
    [byteOf offers.length, byteOf (s.boundCount p)]⟩

def execOpenPlane (p : Port) (tag : Byte) (s : State) : Result :=
  .next (request .openPlane p tag [] (openReply p) s)

/-- CLOSE (R148): refused HAS_BINDINGS while the plane owns a line; else out of service, queue and flag emptied. -/
def closeReply (p : Port) (s : State) : Reply :=
  if s.boundCount p ≠ 0 then refuse s .hasBindings
  else ⟨(s.setService p .outOfService).flush p, .ok, []⟩

def execClosePlane (p : Port) (tag : Byte) (s : State) : Result :=
  .next (request .closePlane p tag [] (closeReply p) s)

/-- CLAIM's five checks in order (R150), then the binding of an unbound line (R151). A line already bound to the
requester is answered OK with no change. A line whose on-hook finding waits is still off-hook for check 3, and the
finding then releases the line from the claimant (R86, log 30). -/
def claimReply (p : Port) (line serial : Byte) (s : State) : Reply :=
  match argLine line with
  | none => refuse s .badArgument
  | some l =>
    let x := s.line l
    if serial ≠ x.serial then refuse s .stale
    else if isOffHook (s.seen l) = false then refuse s .stale
    else
      match x.owner with
      | some q => if q = p then ⟨s, .ok, [line, serial, ownerCode x.owner]⟩ else refuse s .heldByOther
      | none =>
        if x.parked = true ∨ x.desc.admin ≠ .enabled then refuse s .stale
        else ⟨s.modLine l fun y => { y with owner := some p }, .ok, [line, serial, ownerCode (some p)]⟩

def execClaim (p : Port) (tag line serial : Byte) (s : State) : Result :=
  .next (request .claim p tag [line, serial] (claimReply p line serial) s)

/-- RELEASE (R152): the owner gives the line up; it is parked if its supervision is OFF_HOOK or OPENING. A line whose
on-hook finding waits is parked, and the finding then clears the flag and posts nothing (R86, log 30). -/
def releaseReply (p : Port) (line : Byte) (s : State) : Reply :=
  match argLine line with
  | none => refuse s .badArgument
  | some l =>
    let x := s.line l
    match x.owner with
    | none => refuse s .notBound
    | some q =>
      if q ≠ p then refuse s .heldByOther
      else if s.hasJob l = true ∨ s.hasRevert l = true then refuse s .lineBusy
      else
        ⟨s.modLine l fun y => { y with owner := none, parked := isOffHook (s.seen l) }, .ok,
          [yesCode (isOffHook (s.seen l))]⟩

def execRelease (p : Port) (tag line : Byte) (s : State) : Result :=
  .next (request .release p tag [line] (releaseReply p line) s)

/-- Every line bound to `q`, its job and its revert move to `p` (R153 step 1, R114). -/
def State.moveLines (s : State) (q p : Port) : State :=
  let moved := allLines.filter fun l => (s.line l).owner == some q
  let t := moved.foldl (fun u l => u.modLine l fun x => { x with owner := some p }) s
  { t with
    jobs := t.jobs.map fun j => if moved.contains j.line then { j with owner := p } else j
    reverts := t.reverts.map fun r => if moved.contains r.line then { r with owner := p } else r }

/-- A TAKEOVER of a plane in service is kept in mind, with the lines it moves, for the row of R97; one of a plane that is
out of service already leaves it as it was (R153). -/
def State.noteTakeover (s : State) (q : Port) : State :=
  if s.inService q then
    { s with takenOver := some ⟨q, allLines.filter fun l => (s.line l).owner == some q⟩ }
  else s

/-- TAKEOVER (R153): the other plane's lines move to the requester, its queue and flag are emptied and it goes out of
service. The payload is the number of lines moved. -/
def takeoverReply (p : Port) (s : State) : Reply :=
  let q := otherPlane p
  ⟨(((s.noteTakeover q).moveLines q p).flush q).setService q .outOfService, .ok, [byteOf (s.boundCount q)]⟩

def execTakeover (p : Port) (tag : Byte) (s : State) : Result :=
  .next (request .takeover p tag [] (takeoverReply p) s)

end Sys2Proof.Machine
end

