-- ==== Sys2Proof/Machine/Cadence.lean ====
section
/-! DEFINITION. The expiry of the scheduler's timer: CADENCE_TICK (R29, R56 to R61, R98, R103, R123), and the endings an
expiry reaches: NO_ANSWER (R59), WAIT_EXPIRED (R61), NO_HANGUP (R98). -/

namespace Sys2Proof.Machine

/-! ### Frame ends (R59, R103, R123) -/

/-- A turn is due at a frame end of a revert's job: ring caller is yes and the two parties differ (R103). -/
def State.turnDue (s : State) (l : Fin 32) : Bool :=
  match s.revert? l with
  | some r => r.ringCaller && r.caller != r.called
  | none => false

/-- The other ringing state (R103 step 3). -/
def flipRevert : RevertState → RevertState
  | .ringingCalled => .ringingCaller
  | .ringingCaller => .ringingCalled
  | .awaitHangup => .awaitHangup

/-- The other turn (R103 step 3). -/
def flipTurn : Turn → Turn
  | .called => .caller
  | .caller => .called

/-- The party a turn rings (R94). -/
def turnParty (r : Revert) : Turn → Fin 8
  | .called => r.called
  | .caller => r.caller

/-- What a turn makes of the revert's job: the turn flips, and the job takes the other party's station (R103). -/
def State.turnJob (s : State) (r : Revert) (j : Job) : Job :=
  let u := flipTurn (j.turn.getD .called)
  s.takeStation (turnParty r u) { j with turn := some u }

/-- A turn: drive NONE, reservation gone, the revert's state and the job's turn flip, the job takes the other party's
station and its target (R103). -/
def State.takeTurn (s : State) (l : Fin 32) : State :=
  match s.revert? l with
  | none => s
  | some r =>
    ((s.cutDrive l).modJob l (s.turnJob r)).modRevert l fun r => { r with state := flipRevert r.state }

/-- A job's return is due: RINGING on FB with its home feed GOOD (R123). -/
def State.returnDue (s : State) (j : Job) : Bool :=
  match j.home with
  | some h => j.state == .ringing && j.current == some .fb && (s.feed h).state == .good
  | none => false

/-- The return from FB: drive NONE, reservation gone, WAITING on the home feed with wait timer 0 (R123). -/
def State.returnHome (s : State) (l : Fin 32) : State :=
  (s.cutDrive l).modJob l fun j => { j with state := .waiting, current := j.home, phase := none, waitTimer := 0 }

/-- RING_PROGRESS is posted at the first frame end at which frames rung equals ceil(frame limit / 2) (R59 step 3). -/
def State.postProgress (s : State) (l : Fin 32) (j : Job) : State :=
  if j.progress = true ∧ j.framesRung = (j.frameLimit + 1) / 2 then
    s.postOwner l (s.partyEvent .ringProgress l j.party (detail 0 (byteOf j.framesRung)))
  else s

/-- A frame end of a RINGING job, its steps in order (R59, R123). The second component says whether the job left its
feed, which calls for the pass of R60 step 3. -/
def State.frameEnd (s : State) (l : Fin 32) : State × Bool :=
  let t := s.modJob l fun j => { j with framesRung := j.framesRung + 1 }
  match t.job? l with
  | none => (t, false)
  | some j =>
    if j.framesRung = j.frameLimit then (t.endCall l .noAnswer (t.endingReleases l .noAnswer), true)
    else
      let u := t.postProgress l j
      if u.turnDue l then (u.takeTurn l, true)
      else if u.returnDue j then (u.returnHome l, true)
      else (u.burstStep l, false)

/-! ### The expiry (R60) -/

/-- The cadence position and the stamp count advance by one (R29, R31). -/
def State.advance (s : State) : State := { s with pos := s.pos + 1, stamp := s.stamp + 1 }

/-- Step 1 of an expiry for one job: a PLACED job whose boundary falls here enters RINGING, a RINGING job has its burst
start, burst end or frame end (R56, R57, R59, R60). -/
def State.tickJob (a : State × Bool) (l : Fin 32) : State × Bool :=
  let s := a.1
  match s.job? l with
  | none => a
  | some j =>
    match j.phase with
    | none => a
    | some ph =>
      if j.state = .placed ∧ s.pos.val = boundary ph then
        ((s.modJob l fun j => { j with state := .ringing }).burstStep l, a.2)
      else if j.state = .ringing ∧ s.pos.val = boundary ph then
        let r := s.frameEnd l
        (r.1, a.2 || r.2)
      else if j.state = .ringing then (s.burstStep l, a.2)
      else a

/-- The wait timer of a job that counts: at 300 the job ends WAIT_EXPIRED (R61, R110). -/
def State.advanceWait (s : State) (l : Fin 32) (j : Job) : State :=
  let t := s.modJob l fun j => { j with waitTimer := j.waitTimer + 1 }
  if j.waitTimer + 1 = Config.timerLimit then t.endCall l .waitExpired (t.endingReleases l .waitExpired) else t

/-- The hang-up timer of a revert in AWAIT_HANGUP: at 300 the revert ends NO_HANGUP and the binding is kept (R98). -/
def State.advanceHangup (s : State) (l : Fin 32) (r : Revert) : State :=
  let t := s.modRevert l fun r => { r with hangupTimer := r.hangupTimer + 1 }
  if r.hangupTimer + 1 = Config.timerLimit then t.endCall l .noHangup false else t

/-- Step 2 of an expiry for one job (R60, R61, R98); `waiters` are the lines whose jobs were WAITING or SUSPENDED before
the expiry. -/
def State.tickTimer (waiters : List (Fin 32)) (s : State) (l : Fin 32) : State :=
  match s.job? l with
  | none => s
  | some j =>
    match j.state with
    | .reserved =>
      match s.revert? l with
      | some r => if r.state = .awaitHangup then s.advanceHangup l r else s
      | none => s
    | .waiting | .suspended => if waiters.contains l then s.advanceWait l j else s
    | _ => s

/-- A job's wait timer counts in WAITING and SUSPENDED (R50). -/
def Job.counting (j : Job) : Bool := j.state == .waiting || j.state == .suspended

/-- The lines of the jobs whose wait timers count, in arrival order. -/
def State.waiters (s : State) : List (Fin 32) := (s.jobs.filter Job.counting).map (·.line)

/-- Step 1 of an expiry over the pool in arrival order, at the advanced position (R60). -/
def State.tickJobs (s : State) : State × Bool := (s.jobs.map (·.line)).foldl State.tickJob (s, false)

/-- Step 2 of an expiry over the pool in arrival order (R60). -/
def State.tickTimers (s : State) (waiters : List (Fin 32)) : State :=
  (s.jobs.map (·.line)).foldl (State.tickTimer waiters) s

/-- One expiry of the scheduler's timer, in RUN (R60). -/
def State.expiry (s : State) : State :=
  let r := s.advance.tickJobs
  (r.1.tickTimers s.waiters).passIf r.2

/-- CADENCE_TICK (R60); the timer does not run in HOLD and LOAD (R29). -/
def execCadenceTick (s : State) : Result := .next (if s.phase = .run then s.expiry else s)

/-! ### The endings that an expiry reaches

The rows NO_ANSWER, WAIT_EXPIRED and NO_HANGUP are the expiry at which that ending comes about for the line: R60 takes the
ending at the job's place in the expiry, with all else the expiry does (log 6). Where the next expiry brings no such
ending, there is no such event (log 5). -/

/-- The next expiry ends the last frame of the line's job (R59 step 2). -/
def State.noAnswerDue (s : State) (l : Fin 32) : Bool :=
  match s.job? l with
  | some j =>
    match j.phase with
    | some ph => j.state == .ringing && (s.pos + 1).val == boundary ph && j.framesRung + 1 == j.frameLimit
    | none => false
  | none => false

/-- The next expiry takes the wait timer of the line's job to 300 (R61). -/
def State.waitExpiredDue (s : State) (l : Fin 32) : Bool :=
  match s.job? l with
  | some j => j.counting && j.waitTimer + 1 == Config.timerLimit
  | none => false

/-- The next expiry takes the hang-up timer of the line's revert to 300 (R98). -/
def State.noHangupDue (s : State) (l : Fin 32) : Bool :=
  match s.job? l, s.revert? l with
  | some j, some r => j.state == .reserved && r.state == .awaitHangup && r.hangupTimer + 1 == Config.timerLimit
  | _, _ => false

def execNoAnswer (l : Fin 32) (s : State) : Result :=
  .next (if s.phase = .run ∧ s.noAnswerDue l = true then s.expiry else s)

def execWaitExpired (l : Fin 32) (s : State) : Result :=
  .next (if s.phase = .run ∧ s.waitExpiredDue l = true then s.expiry else s)

def execNoHangup (l : Fin 32) (s : State) : Result :=
  .next (if s.phase = .run ∧ s.noHangupDue l = true then s.expiry else s)

end Sys2Proof.Machine
end

