-- ==== Sys2Proof/Machine/Feeds.lean ====
section
/-! DEFINITION. The feed monitor: FEED_SAMPLE (R118), FEED_FAIL (R119, R120), FEED_RECOVERY (R121), FB_RECOVERY
(R122). -/

namespace Sys2Proof.Machine

/-- The code of a feed with its state, the detail of FEED_STATE (R188). -/
def feedDetail (f : Feed) (v : FeedState) : BitVec 16 := detail (feedCode f) (feedStateCode v)

/-- A job is moved off a failing feed: its burst is cut, its reservation goes, target selection gives its new state and
the wait timer restarts (R120). -/
def State.moveOff (s : State) (l : Fin 32) : State := (s.modJob l s.selectTarget).cutDrive l

/-- A feed fails (R119): FAILED, latch set, last-burst record frozen, its jobs moved in arrival order, a pass if a
reservation was removed, FEED_STATE, then fault capture. The pass may place a moved job at the phase it had, on FB, and
its first boundary may be the very next expiry: R131 is read as naming the boundary the job had on the failed feed.
DEDUCED, unsafe (log 32). -/
def State.failFeed (s : State) (f : Feed) : State :=
  let t := s.modFeed f fun x =>
    { x with state := .failed, absentRun := 0, presentRun := 0, latch := true, frozen := true }
  let onFeed := t.jobs.filter fun j => j.current == some f
  let u := ((onFeed.map (·.line)).foldl State.moveOff t).passIf (onFeed.any Job.placed)
  (u.postAll (u.plainEvent .feedState (feedDetail f .failed))).capture .feedFail (some f) none

/-- What a generator's recovery makes of a job whose home feed it is (R121 steps 2 to 5). -/
def recoverJob (f : Feed) (j : Job) : Job :=
  if j.home = some f then
    match j.state with
    | .suspended => { j with state := .waiting, current := some f, waitTimer := 0 }
    | .waiting => if j.current = some .fb then { j with current := some f } else j
    | .placed =>
      if j.current = some .fb then { j with state := .waiting, current := some f, phase := none, waitTimer := 0 } else j
    | _ => j
  else j

/-- FEED_STATE GOOD, posted at a recovery (R121 step 7, R122). -/
def State.postFeedGood (s : State) (f : Feed) : State := s.postAll (s.plainEvent .feedState (feedDetail f .good))

/-- The feed's state becomes GOOD; latch and freeze are left as they are (R121 step 1, R122). -/
def State.feedGood (s : State) (f : Feed) : State :=
  s.modFeed f fun x => { x with state := .good, absentRun := 0, presentRun := 0 }

/-- A feed recovers: a generator moves its jobs (R121), FB moves none (R122); a pass, then FEED_STATE. The pass may place a
moved job at the phase it had, as after a failure. DEDUCED, unsafe (log 32). -/
def State.recoverFeed (s : State) (f : Feed) : State :=
  let t := s.feedGood f
  let u := if f = .fb then t else { t with jobs := t.jobs.map (recoverJob f) }
  u.pass.postFeedGood f

/-- Sense is taken as absent while the forced-loss flag is set (R118, R127). -/
def State.sensed (s : State) (i : FeedInput) : Bool := i.present && !(s.feed i.feed).forcedLoss

/-- One sample of one feed (R118). -/
def State.sampleFeed (s : State) (i : FeedInput) : State :=
  let f := i.feed
  let x := s.feed f
  match x.state, s.sensed i with
  | .good, true => s.modFeed f fun x => { x with absentRun := 0 }
  | .good, false =>
    if x.absentRun + 1 < 30 then s.modFeed f fun x => { x with absentRun := x.absentRun + 1 } else s.failFeed f
  | .failed, false => s.modFeed f fun x => { x with presentRun := 0 }
  | .failed, true =>
    if x.presentRun + 1 < 500 then s.modFeed f fun x => { x with presentRun := x.presentRun + 1 }
    else s.recoverFeed f

/-- FEED_SAMPLE (R118): the five feeds in the order given (log 8). The timer does not run in HOLD and LOAD. -/
def execFeedSample (inputs : List FeedInput) (s : State) : Result :=
  .next (if s.phase = .run then inputs.foldl State.sampleFeed s else s)

/-- The next absent sample of a GOOD feed is the thirtieth (R118). -/
def State.failDue (s : State) (f : Feed) : Bool :=
  (s.feed f).state == .good && decide (30 ≤ (s.feed f).absentRun + 1)

/-- FEED_FAIL (R119): the thirtieth absent sample of the feed (log 7). -/
def execFeedFail (f : Feed) (s : State) : Result :=
  .next (if s.phase = .run ∧ s.failDue f = true then s.failFeed f else s)

/-- The next present sample of a FAILED feed is the five-hundredth (R118). -/
def State.recoveryDue (s : State) (f : Feed) : Bool :=
  (s.feed f).state == .failed && !(s.feed f).forcedLoss && decide (500 ≤ (s.feed f).presentRun + 1)

/-- FEED_RECOVERY (R121): the five-hundredth present sample of a generator (log 7). -/
def execFeedRecovery (f : Feed) (s : State) : Result :=
  .next (if s.phase = .run ∧ f ≠ .fb ∧ s.recoveryDue f = true then s.recoverFeed f else s)

/-- FB_RECOVERY (R122): the five-hundredth present sample of FB (log 7). -/
def execFbRecovery (s : State) : Result :=
  .next (if s.phase = .run ∧ s.recoveryDue .fb = true then s.recoverFeed .fb else s)

end Sys2Proof.Machine
end

