-- ==== Sys2Proof/Machine/LinkEvents.lean ====
section
/-! DEFINITION. The events of the links: BAD_REQUEST (R161), LINK_BYTE_RECEIVED (R157, R158, R160), BYTE_GAP_TIMEOUT
(R159), RESPONSE_SENT (R160, R163). -/

namespace Sys2Proof.Machine

/-- BAD_REQUEST (R161 step 2): a frame whose KIND names no request, or whose argument length is wrong, is answered
BAD_REQUEST, or NOT_READY in LOAD. A body that does name a request is not this event (log 5). -/
def execBadRequest (p : Port) (tag kind : Byte) (args : List Byte) (s : State) : Result :=
  .next (if namesNoRequest kind args then takeFrame p tag kind args (fun t => refuse t .badRequest) s else s)

/-- A port's receiver takes a byte (R157): in HOLD it takes none; a low stop bit discards the partial frame; a good
frame is placed in the receive buffer. -/
def State.receiveByte (s : State) (p : Port) (b : Byte) (stopHigh : Bool) : State :=
  if s.phase = .hold then s
  else if stopHigh = false then s.modPort p fun r => { r with receiver := .reset }
  else
    let t := s.modPort p fun r => { r with receiver := r.receiver.next b }
    match (s.port p).receiver.completes b with
    | none => t
    | some body => t.placeFrame p body

def execLinkByteReceived (p : Port) (byte : Byte) (stopHigh : Bool) (s : State) : Result :=
  .next (s.receiveByte p byte stopHigh)

/-- BYTE_GAP_TIMEOUT (R159): a gap above 5 ms within a frame discards the partial frame; gaps are not timed in HUNT. -/
def execByteGapTimeout (p : Port) (s : State) : Result :=
  .next (if s.phase = .hold ∨ (s.port p).receiver.state = .hunt then s
    else s.modPort p fun r => { r with receiver := .reset })

/-- The stage of a RESET once a response of a port has been sent: the commanded reset is due when it was Port M's
answer to RESET (R163, R186). -/
def stageAfterSent (p : Port) (g : ResetStage) : ResetStage := if p = .m ∧ g = .answered then .due else g

/-- RESPONSE_SENT (R160): the last byte of the response has been sent and the receive buffer is emptied. Without a
response in transmission there is no such event (log 5). -/
def execResponseSent (p : Port) (s : State) : Result :=
  .next (if (s.port p).response.isNone then s
    else { s.modPort p fun r => { r with buffer := none, response := none } with
      resetStage := stageAfterSent p s.resetStage })

end Sys2Proof.Machine
end

