-- ==== Sys2Proof/Machine/Queries.lean ====
section
/-! DEFINITION. FETCH, the status queries and the reads (R17, R18, R27, R129, R130, R164, R168, R174). Only FETCH changes
any state of the owning blocks. -/

namespace Sys2Proof.Machine

/-- FETCH (R168): up to four of the oldest events leave the queue, the flag is read and cleared. -/
def fetchReply (p : Port) (s : State) : Reply :=
  let r := s.port p
  let events := r.queue.take Config.fetchSize
  ⟨s.modPort p fun r => { r with queue := r.queue.drop Config.fetchSize, overflow := false }, .ok,
    byteOf events.length :: yesCode r.overflow :: events.flatMap eventBytes⟩

def execFetch (p : Port) (tag : Byte) (s : State) : Result :=
  .next (request .fetch p tag [] (fetchReply p) s)

/-- The runtime record in LINE_STATUS (R18, R188). -/
def runtimeBytes (x : Line) : List Byte :=
  [supervisionCode x.supervision, yesCode x.parked, ownerCode x.owner, x.serial, driveByte x.drive]

/-- The place of a line's job in the arrival list, 0 for the head (R72). -/
def State.arrivalPosition (s : State) (l : Fin 32) : Nat := s.jobs.findIdx fun j => j.line == l

/-- The LINE_STATUS payload (R18, R72, R115, R188): 39 bytes. -/
def lineStatusPayload (s : State) (l : Fin 32) : List Byte :=
  lineBytes (s.line l).desc ++ runtimeBytes (s.line l) ++ jobSummary (s.job? l) (s.arrivalPosition l) ++
    revertSummary (s.revert? l)

def lineStatusReply (line : Byte) (s : State) : Reply :=
  match argLine line with
  | none => refuse s .badArgument
  | some l => ⟨s, .ok, lineStatusPayload s l⟩

def execLineStatus (p : Port) (tag line : Byte) (s : State) : Result :=
  .next (request .lineStatus p tag [line] (lineStatusReply line) s)

/-- The FEED_STATUS payload (R130, R188): 16 bytes. -/
def feedStatusPayload (s : State) (f : Feed) : List Byte :=
  let x := s.feed f
  [feedCode f, feedStateCode x.state, yesCode x.latch, yesCode x.forcedLoss] ++ wordBytes (s.peak f) ++
    wordBytes x.capacity ++ wordBytes (s.effectiveCapacity f) ++ burstMarkBytes x.lastBurst ++ [yesCode x.frozen]

def feedStatusReply (feed : Byte) (s : State) : Reply :=
  match argFeed feed with
  | none => refuse s .badArgument
  | some f => ⟨s, .ok, feedStatusPayload s f⟩

def execFeedStatus (p : Port) (tag feed : Byte) (s : State) : Result :=
  .next (request .feedStatus p tag [feed] (feedStatusReply feed) s)

/-- The PORT_STATUS payload (R164, R188): 8 bytes. -/
def portStatusPayload (s : State) (p : Port) : List Byte :=
  [serviceCode s.serviceA, serviceCode s.serviceB, levelCode s.battery.level, referenceCode s.reference.state,
   yesCode (s.port p).overflow, byteOf (s.port p).queue.length, causeByte s.causes, sourceCode s.source]

def portStatusReply (p : Port) (s : State) : Reply := ⟨s, .ok, portStatusPayload s p⟩

def execPortStatus (p : Port) (tag : Byte) (s : State) : Result :=
  .next (request .portStatus p tag [] (portStatusReply p) s)

/-- READ_LINE (R17). -/
def readLineReply (line : Byte) (s : State) : Reply :=
  match argLine line with
  | none => refuse s .badArgument
  | some l => ⟨s, .ok, lineBytes (s.line l).desc⟩

def execReadLine (p : Port) (tag line : Byte) (s : State) : Result :=
  .next (request .readLine p tag [line] (readLineReply line) s)

/-- The pool index and the station record, as READ_STATION and WRITE_STATION return them (R188). -/
def stationPayload (s : State) (i : Fin 192) : List Byte := byteOf i.val :: stationBytes (s.station i)

/-- READ_STATION (R17): a party at or above the line's count has no station (R4). -/
def readStationReply (line party : Byte) (s : State) : Reply :=
  match argLine line, argParty party with
  | some l, some y =>
    match stationIndex (s.line l).desc y with
    | none => refuse s .badArgument
    | some i => ⟨s, .ok, stationPayload s i⟩
  | _, _ => refuse s .badArgument

def execReadStation (p : Port) (tag line party : Byte) (s : State) : Result :=
  .next (request .readStation p tag [line, party] (readStationReply line party) s)

/-- READ_PATTERN (R27). -/
def readPatternReply (pattern : Byte) (s : State) : Reply :=
  match argPattern pattern with
  | none => refuse s .badArgument
  | some k => ⟨s, .ok, patternBytes (s.pattern k)⟩

def execReadPattern (p : Port) (tag pattern : Byte) (s : State) : Result :=
  .next (request .readPattern p tag [pattern] (readPatternReply pattern) s)

/-- READ_FEED (R129). -/
def readFeedReply (feed : Byte) (s : State) : Reply :=
  match argFeed feed with
  | none => refuse s .badArgument
  | some f => ⟨s, .ok, feedBytes f (s.feed f)⟩

def execReadFeed (p : Port) (tag feed : Byte) (s : State) : Result :=
  .next (request .readFeed p tag [feed] (readFeedReply feed) s)

/-- READ_FAULT (R174). -/
def readFaultReply (s : State) : Reply := ⟨s, .ok, faultBytes s.faultRecord s.missed⟩

def execReadFault (p : Port) (tag : Byte) (s : State) : Result :=
  .next (request .readFault p tag [] readFaultReply s)

end Sys2Proof.Machine
end

