-- ==== Sys2Proof/Machine/Writes.lean ====
section
/-! DEFINITION. The configuration writes: WRITE_LINE (R11, R12), WRITE_STATION (R15, R16), WRITE_PATTERN (R26, R27),
WRITE_FEED (R43, R128, R129). -/

namespace Sys2Proof.Machine

/-- A plane may not write a protected record nor set the flag (R14). -/
def guardRefuses (p : Port) (stored written : Bool) : Bool := isPlane p && (stored || written)

/-! ### WRITE_LINE -/

/-- The descriptor that WRITE_LINE's arguments spell, the default frame limit saturated; none where the first check
of R11 fails. -/
def writtenDescriptor (admin base count allowance limit guarded : Byte) : Option Descriptor :=
  match argAdmin admin, argBase base, argYes guarded with
  | some m, some b, some g =>
    if count.toNat ≤ 8 ∧ allowance.toNat ≤ 30 ∧ limit.toNat ≠ 0 then
      some { admin := m, base := b, count := count.toNat, allowance := allowance.toNat,
             frameLimit := saturateLimit limit, guarded := g }
    else none
  | _, _, _ => none

/-- The checks of WRITE_LINE from the second on (R11). -/
def writeLineRefusal (p : Port) (l : Fin 32) (d : Descriptor) (s : State) : Option Status :=
  if guardRefuses p (s.line l).desc.guarded d.guarded = true then some .notPermitted
  else if s.saving = true then some .saveBusy
  else if isPlane p = true ∧ (s.line l).desc.admin = .faulted then some .lineFaulted
  else if (s.line l).owner ≠ none ∨ s.hasJob l = true ∨ s.hasRevert l = true then some .inUse
  else if 192 < d.base.val + d.count ∨ (d.admin = .enabled ∧ d.count = 0) then some .badRange
  else if s.overlapsOther l d = true then some .overlap
  else none

/-- What the line table does on the change of the admin state (R5, R12): `old` before, `new` after, the descriptor
already replaced in `t`; the outstanding test is made on the line as it was in `s`. -/
def State.actOnAdmin (t s : State) (l : Fin 32) (old new : Admin) : State :=
  match old, new with
  | .disabled, .enabled | .faulted, .enabled => t.restartLine l
  | .enabled, .disabled => (if s.outstanding l then t.abandonOrigination l else t).disableLine l
  | .faulted, .disabled => t.disableLine l
  | _, _ => t

/-- An accepted WRITE_LINE (R12). -/
def State.writeLine (s : State) (l : Fin 32) (d : Descriptor) : State :=
  (s.modLine l fun x => { x with desc := d }).actOnAdmin s l (s.line l).desc.admin d.admin

def writeLineReply (p : Port) (line admin base count allowance limit guarded : Byte) (s : State) : Reply :=
  match argLine line, writtenDescriptor admin base count allowance limit guarded with
  | some l, some d =>
    match writeLineRefusal p l d s with
    | some st => refuse s st
    | none => ⟨s.writeLine l d, .ok, lineBytes d⟩
  | _, _ => refuse s .badArgument

def execWriteLine (p : Port) (tag line admin base count allowance limit guarded : Byte) (s : State) : Result :=
  .next (request .writeLine p tag [line, admin, base, count, allowance, limit, guarded]
    (writeLineReply p line admin base count allowance limit guarded) s)

/-! ### WRITE_STATION -/

/-- The station record that WRITE_STATION's arguments spell, the load saturated; none where one is outside its codes
or the load is 0 (R15). -/
def writtenStation (enabled home side pattern load selective guarded : Byte) : Option Station :=
  match argYes enabled, argHome home, argSide side, argPattern pattern, argYes selective, argYes guarded with
  | some e, some h, some d, some k, some v, some g =>
    if load.toNat = 0 then none
    else some { enabled := e, home := h, side := d, pattern := k, load := saturateLoad load, selective := v,
                guarded := g }
  | _, _, _, _, _, _ => none

/-- The checks of WRITE_STATION from the third on (R15). -/
def writeStationRefusal (p : Port) (l : Fin 32) (y : Fin 8) (i : Fin 192) (x : Station) (s : State) : Option Status :=
  if guardRefuses p (s.station i).guarded x.guarded = true then some .notPermitted
  else if s.saving = true then some .saveBusy
  else if s.stationReferenced l y i = true then some .inUse
  else none

def writeStationReply (p : Port) (line party enabled home side pattern load selective guarded : Byte) (s : State) :
    Reply :=
  match argLine line, argParty party, writtenStation enabled home side pattern load selective guarded with
  | some l, some y, some x =>
    match stationIndex (s.line l).desc y with
    | none => refuse s .badArgument
    | some i =>
      match writeStationRefusal p l y i x s with
      | some st => refuse s st
      | none => ⟨s.setStation i x, .ok, byteOf i.val :: stationBytes x⟩
  | _, _, _ => refuse s .badArgument

def execWriteStation (p : Port) (tag line party enabled home side pattern load selective guarded : Byte) (s : State) :
    Result :=
  .next (request .writeStation p tag [line, party, enabled, home, side, pattern, load, selective, guarded]
    (writeStationReply p line party enabled home side pattern load selective guarded) s)

/-! ### WRITE_PATTERN -/

/-- The counted bursts of WRITE_PATTERN's four pairs; none where the burst count or a counted length is outside its
range (R26). The bursts beyond the count are not looked at. -/
def writtenBursts (count on1 off1 on2 off2 on3 off3 on4 off4 : Byte) : Option (List Burst) :=
  let pairs := [(on1, off1), (on2, off2), (on3, off3), (on4, off4)]
  let bursts := (pairs.take count.toNat).map fun x => Burst.mk x.1.toNat x.2.toNat
  if 1 ≤ count.toNat ∧ count.toNat ≤ 4 ∧ burstsInRange bursts = true then some bursts else none

/-- The checks of WRITE_PATTERN from the second on (R26). -/
def writePatternRefusal (k : Fin 16) (bursts : List Burst) (s : State) : Option Status :=
  if s.saving = true then some .saveBusy
  else if s.patternInUse k = true then some .inUse
  else if burstsWithinSums bursts = false then some .badPattern
  else none

def writePatternReply (pattern count on1 off1 on2 off2 on3 off3 on4 off4 : Byte) (s : State) : Reply :=
  match argPattern pattern, writtenBursts count on1 off1 on2 off2 on3 off3 on4 off4 with
  | some k, some bursts =>
    match writePatternRefusal k bursts s with
    | some st => refuse s st
    | none => ⟨s.setPattern k ⟨bursts⟩, .ok, patternBytes ⟨bursts⟩⟩
  | _, _ => refuse s .badArgument

def execWritePattern (p : Port) (tag pattern count on1 off1 on2 off2 on3 off3 on4 off4 : Byte) (s : State) : Result :=
  .next (request .writePattern p tag [pattern, count, on1, off1, on2, off2, on3, off3, on4, off4]
    (writePatternReply pattern count on1 off1 on2 off2 on3 off3 on4 off4) s)

/-! ### WRITE_FEED -/

/-- The checks of WRITE_FEED from the second on (R128). -/
def writeFeedRefusal (f : Feed) (freq : Nat) (fallback : Bool) (s : State) : Option Status :=
  if s.saving = true then some .saveBusy
  else if freq ≠ (s.feed f).freq ∧ (s.jobs.any fun j => j.current == some f) = true then some .inUse
  else if (s.feed f).fallback = true ∧ fallback = false ∧
      (s.jobs.any fun j => j.home == some f && j.current == some .fb) = true then some .inUse
  else none

/-- An accepted WRITE_FEED (R43, R129): the fields are stored, the feed is shed if its effective capacity fell, and one
placement pass runs. The pass may place a shed job at the phase it had, and its new boundary may be the one it was waiting
for (R56). DEDUCED, unsafe (log 32). -/
def State.writeFeed (s : State) (f : Feed) (freq capacity : Nat) (fallback : Bool) : State :=
  let t := s.modFeed f fun x =>
    { x with freq := freq, capacity := saturateCapacity f capacity, fallback := fallback }
  (if t.effectiveCapacity f < s.effectiveCapacity f then t.shedFeed f else t).pass

/-- The WRITE_FEED payload: the record as stored, C and C_eff (R43, R188). -/
def writeFeedPayload (s : State) (f : Feed) : List Byte :=
  feedBytes f (s.feed f) ++ wordBytes (s.feed f).capacity ++ wordBytes (s.effectiveCapacity f)

def writeFeedReply (feed freq : Byte) (capacity : BitVec 16) (fallback : Byte) (s : State) : Reply :=
  match argFeed feed, argYes fallback with
  | some f, some b =>
    if 5 < freq.toNat ∨ (f = .fb ∧ b = true) then refuse s .badArgument
    else
      match writeFeedRefusal f freq.toNat b s with
      | some st => refuse s st
      | none =>
        let t := s.writeFeed f freq.toNat capacity.toNat b
        ⟨t, .ok, writeFeedPayload t f⟩
  | _, _ => refuse s .badArgument

def execWriteFeed (p : Port) (tag feed freq : Byte) (capacity : BitVec 16) (fallback : Byte) (s : State) : Result :=
  .next (request .writeFeed p tag
    [feed, freq, capacity.extractLsb' 8 8, capacity.extractLsb' 0 8, fallback]
    (writeFeedReply feed freq capacity fallback) s)

end Sys2Proof.Machine
end

