-- ==== Sys2Proof/Machine/Maintenance.lean ====
section
/-! DEFINITION. The maintenance requests: RESET_LINE (R19), SAVE (R182), RESET (R186), CLEAR_FAULT (R175),
CLEAR_FEED_FAULT (R126), FORCE_SENSE_LOSS (R127), CLEAR_CAUSE (R179). -/

namespace Sys2Proof.Machine

/-! ### RESET_LINE -/

/-- Steps 4 to 6 of RESET_LINE: unbound, not parked, drive NONE, a FAULTED line ENABLED (R19). -/
def clearedLine (x : Line) : Line :=
  { x with
    owner := none, parked := false, drive := none
    desc := { x.desc with admin := if x.desc.admin = .faulted then .enabled else x.desc.admin } }

/-- Step 7 of RESET_LINE: supervision restarts on an ENABLED line (R19). -/
def State.restartIfEnabled (s : State) (l : Fin 32) : State :=
  if (s.line l).desc.admin = .enabled then s.restartLine l else s

/-- RESET_LINE's steps in order, the placement pass last (R19, R54). -/
def State.resetLine (s : State) (l : Fin 32) : State :=
  let a := if s.hasJob l || s.hasRevert l then s.endCall l .lineReset false else s
  let b := (a.abandonIfOutstanding l).modLine l clearedLine
  (b.restartIfEnabled l).passIf (s.holdsReservation l)

/-- The RESET_LINE payload: former owner, job ended, revert ended, former admin state (R19, log 16). -/
def resetLinePayload (s : State) (l : Fin 32) : List Byte :=
  [ownerCode (s.line l).owner, yesCode (s.hasJob l), yesCode (s.hasRevert l), adminCode (s.line l).desc.admin]

def resetLineReply (line : Byte) (s : State) : Reply :=
  match argLine line with
  | none => refuse s .badArgument
  | some l => ⟨s.resetLine l, .ok, resetLinePayload s l⟩

def execResetLine (p : Port) (tag line : Byte) (s : State) : Result :=
  .next (request .resetLine p tag [line] (resetLineReply line) s)

/-! ### SAVE -/

/-- The signature cleared; a cleared byte is 00 (R183, log 14). -/
def clearedSignature : List Host.Cell := [(0, 0), (1, 0)]

/-- SAVE (R163, R182): the contents are fixed, the clearing of the signature starts, the answer is ACCEPTED. The memory
is shown with its signature cleared from here on (log 14). -/
def saveReply (s : State) : Reply :=
  if s.saving = true then refuse s .saveBusy
  else
    ⟨{ s with save := some ⟨s.imageBytes, s.image⟩, image := Memory.writeAll s.image clearedSignature }, .accepted, []⟩

def execSave (p : Port) (tag : Byte) (s : State) : Result :=
  .next (request .save p tag [] saveReply s)

/-! ### RESET -/

/-- RESET (R163, R186): answered OK; the commanded reset is to follow the last byte of the response. -/
def resetReply (s : State) : Reply := ⟨{ s with resetStage := .answered }, .ok, []⟩

def execReset (p : Port) (tag : Byte) (s : State) : Result :=
  .next (request .reset p tag [] resetReply s)

/-! ### The clears and the forced loss -/

/-- CLEAR_FAULT (R175): the record and the set are emptied and returned as they stood. -/
def clearFaultReply (s : State) : Reply :=
  ⟨{ s with faultRecord := none, missed := .empty }, .ok, faultBytes s.faultRecord s.missed⟩

def execClearFault (p : Port) (tag : Byte) (s : State) : Result :=
  .next (request .clearFault p tag [] clearFaultReply s)

/-- CLEAR_FEED_FAULT (R126): the latch is cleared and the last-burst record unfrozen; the answer gives the state and
the latch found. -/
def clearFeedFaultReply (feed : Byte) (s : State) : Reply :=
  match argFeed feed with
  | none => refuse s .badArgument
  | some f =>
    ⟨s.modFeed f fun x => { x with latch := false, frozen := false }, .ok,
      [feedStateCode (s.feed f).state, yesCode (s.feed f).latch]⟩

def execClearFeedFault (p : Port) (tag feed : Byte) (s : State) : Result :=
  .next (request .clearFeedFault p tag [feed] (clearFeedFaultReply feed) s)

/-- FORCE_SENSE_LOSS (R127): the flag is set or cleared; the answer gives the flag and the state. -/
def forceSenseLossReply (feed value : Byte) (s : State) : Reply :=
  match argFeed feed, argYes value with
  | some f, some v =>
    ⟨s.modFeed f fun x => { x with forcedLoss := v }, .ok, [yesCode v, feedStateCode (s.feed f).state]⟩
  | _, _ => refuse s .badArgument

def execForceSenseLoss (p : Port) (tag feed value : Byte) (s : State) : Result :=
  .next (request .forceSenseLoss p tag [feed, value] (forceSenseLossReply feed value) s)

/-- CLEAR_CAUSE (R179): the set is emptied and returned as it stood. -/
def clearCauseReply (s : State) : Reply := ⟨{ s with causes := .empty }, .ok, [causeByte s.causes]⟩

def execClearCause (p : Port) (tag : Byte) (s : State) : Result :=
  .next (request .clearCause p tag [] clearCauseReply s)

end Sys2Proof.Machine
end

