-- ==== Sys2Proof/Machine/Monitors.lean ====
section
/-! DEFINITION. The battery and reference monitor: BATTERY_READING (R133, R134), BATTERY_STATE (R42, R135), REFERENCE_EDGE
(R139, R140), REFERENCE_LOST (R139), REFERENCE_RESTORED (R140). -/

namespace Sys2Proof.Machine

/-! ### The battery -/

/-- A reading above 800 is taken as 800 (R133). -/
def clampReading (n : Nat) : Nat := min n 800

/-- The target level and direction of a reading, judged from the level in force (R134, table of 7.2). -/
def readingTarget (level : Level) (n : Nat) : Level × RunDirection :=
  match level with
  | .normal => if n < 420 then (.critical, .fall) else if n < 440 then (.low, .fall) else (.normal, .none)
  | .low => if n < 420 then (.critical, .fall) else if n < 460 then (.low, .none) else (.normal, .rise)
  | .critical => if n < 435 then (.critical, .none) else if n < 460 then (.low, .rise) else (.normal, .rise)

/-- The milder of the held reach and the reading's target: LOW where either is LOW (R134 step 3). -/
def milder (held : Option Level) (target : Level) : Level := if held = some .low then .low else target

/-- The run is cleared (R134). -/
def Battery.clearRun (b : Battery) : Battery := { b with direction := .none, count := 0, reach := none }

/-- The scheduler takes a new level, already in force, by R42; `old` is the level before. The pass may place a shed job at
whatever phase fits, the one it had among them (R42). DEDUCED, unsafe for the boundary that job was waiting for (R56,
log 32). -/
def State.scheduleLevel (s : State) (old : Level) : State :=
  match s.battery.level with
  | .critical => s.shedLowClasses.shedAll.pass
  | .low => if old = .normal then s.shedAll.pass else s.pass
  | .normal => s.pass

/-- The level changes (R135): the level and k, the scheduler's shedding and pass, BATTERY_STATE, then BATTERY_CRITICAL on
entry to CRITICAL. The run is cleared (R134 step 4). -/
def State.changeLevel (s : State) (new : Level) : State :=
  let t := ({ s with battery := { s.battery.clearRun with level := new } }).scheduleLevel s.battery.level
  let u := t.postAll (t.plainEvent .batteryState (detail 0 (levelCode new)))
  if new = .critical then u.capture .batteryCritical none none else u

/-- The run as a reading past a threshold leaves it, before a fourth reading is acted on (R134 steps 2 and 3). -/
def Battery.extend (b : Battery) (target : Level) (dir : RunDirection) : Battery :=
  if dir = b.direction then { b with count := b.count + 1, reach := some (milder b.reach target) }
  else { b with direction := dir, count := 1, reach := some target }

/-- A reading is applied to the filter (R134). -/
def State.applyReading (s : State) (reading : Nat) : State :=
  let r := readingTarget s.battery.level (clampReading reading)
  if r.1 = s.battery.level then { s with battery := s.battery.clearRun }
  else
    let b := s.battery.extend r.1 r.2
    if 4 ≤ b.count then s.changeLevel (b.reach.getD r.1) else { s with battery := b }

/-- BATTERY_READING (R133, R134); no reading is taken in HOLD and LOAD (R132). -/
def execBatteryReading (reading : Nat) (s : State) : Result :=
  .next (if s.phase = .run then s.applyReading reading else s)

/-- The reading completes a run of four (R134 step 4). -/
def State.levelDue (s : State) (reading : Nat) : Bool :=
  let r := readingTarget s.battery.level (clampReading reading)
  r.1 != s.battery.level && decide (4 ≤ (s.battery.extend r.1 r.2).count)

/-- BATTERY_STATE (R135): the reading that completes a run (log 7). -/
def execBatteryState (reading : Nat) (s : State) : Result :=
  .next (if s.phase = .run ∧ s.levelDue reading = true then s.applyReading reading else s)

/-! ### The reference -/

/-- Timing source of the timers (R138): it follows the reference state. -/
inductive TimingSource where
  | reference | backup
  deriving DecidableEq, Repr

def State.timingSource (s : State) : TimingSource :=
  match s.reference.state with
  | .present => .reference
  | .lost => .backup

/-- A gap of 1 ms, in microseconds (R139). -/
def lossGap : Nat := 1000

/-- Two nominal periods, in microseconds (R140). -/
def runGap : Nat := 250

/-- The restore run's length, in microseconds (R140). -/
def restoreLength : Nat := 100000

/-- The reference is lost (R139): LOST with BACKUP, restore run 0, REFERENCE_STATE(LOST), then REFERENCE_LOST. No count,
frame, phase or timer changes. -/
def State.loseReference (s : State) : State :=
  let t := { s with reference := { state := .lost, restoreRun := 0, runOpen := false } }
  (t.postAll (t.plainEvent .referenceState (detail 0 1))).capture .referenceLost none none

/-- The reference is restored at the edge that completes the run (R140). -/
def State.restoreReference (s : State) : State :=
  let t := { s with reference := .reset }
  t.postAll (t.plainEvent .referenceState (detail 0 0))

/-- An edge while LOST (R140): the first edge after the loss or a break starts the run at 0, an edge within 250 µs
continues it, and at 100 ms the reference is restored. -/
def State.edgeWhileLost (s : State) (gap : Nat) : State :=
  if s.reference.runOpen = false ∨ runGap < gap then
    { s with reference := { s.reference with restoreRun := 0, runOpen := true } }
  else if s.reference.restoreRun + gap < restoreLength then
    { s with reference := { s.reference with restoreRun := s.reference.restoreRun + gap } }
  else s.restoreReference

/-- An edge that arrives `gap` microseconds after the one before (R139, R140). While PRESENT it restarts the gap; one
that arrives after 1 ms or more finds the reference lost at the 1 ms, and is the first edge after the loss (log 19). -/
def State.takeEdge (s : State) (gap : Nat) : State :=
  match s.reference.state with
  | .present => if gap < lossGap then s else s.loseReference.edgeWhileLost gap
  | .lost => s.edgeWhileLost gap

/-- REFERENCE_EDGE (R140); in HOLD and LOAD the monitor reports nothing (R138). -/
def execReferenceEdge (gap : Nat) (s : State) : Result :=
  .next (if s.phase = .run then s.takeEdge gap else s)

/-- REFERENCE_LOST (R139): the gap reaches 1 ms while the reference is PRESENT. -/
def execReferenceLost (s : State) : Result :=
  .next (if s.phase = .run ∧ s.reference.state = .present then s.loseReference else s)

/-- The edge completes the restore run (R140). -/
def State.restoreDue (s : State) (gap : Nat) : Bool :=
  s.reference.state == .lost && s.reference.runOpen && decide (gap ≤ runGap) &&
    decide (restoreLength ≤ s.reference.restoreRun + gap)

/-- REFERENCE_RESTORED (R140): the edge that completes the restore run (log 7). -/
def execReferenceRestored (gap : Nat) (s : State) : Result :=
  .next (if s.phase = .run ∧ s.restoreDue gap = true then s.restoreReference else s)

end Sys2Proof.Machine
end

