-- ==== Sys2Proof/Machine/Ringing.lean ====
section
/-! DEFINITION. Ringing requests: RING, CANCEL_RING, PROMOTE, SET_POLICY (chapter 3), REVERT, CANCEL_REVERT
(chapter 5). -/

namespace Sys2Proof.Machine

/-! ### RING (R51, R52) -/

/-- The checks of RING from the fourth on, for a line and party in range on an ENABLED line (R51). A line whose on-hook
finding waits is still off-hook for check 8 (log 30). -/
def ringRefusal (p : Port) (l : Fin 32) (y : Fin 8) (s : State) : Option Status :=
  match stationIndex (s.line l).desc y with
  | none => some .badArgument
  | some i =>
    if (s.station i).enabled = false then some .stationDisabled
    else if (s.line l).owner ≠ none ∧ (s.line l).owner ≠ some p then some .heldByOther
    else if s.hasJob l = true ∨ s.hasRevert l = true then some .lineBusy
    else if s.seen l ≠ .onHook then some .lineOffHook
    else if Config.poolSize ≤ s.jobs.length then some .poolFull
    else none

/-- The job a RING creates, before target selection (R46, R52 step 1). -/
def ringJob (p : Port) (l : Fin 32) (y : Fin 8) (c : Fin 4) (limit : Nat) (progress : Bool) : Job :=
  { line := l, party := y, station := none, owner := p, cls := c, pattern := none, load := none, home := none,
    current := none, state := .waiting, phase := none, framesRung := 0, frameLimit := limit, progress := progress,
    waitTimer := 0, shedCount := 0, turn := none }

/-- The state after an accepted RING: job created with its station's properties and its target, line bound if it was
unbound, one placement pass (R52). -/
def State.createRing (s : State) (p : Port) (l : Fin 32) (y : Fin 8) (c : Fin 4) (limit : Nat) (progress : Bool) :
    State :=
  let j := s.takeStation y (ringJob p l y c limit progress)
  let t := s.addJob j
  (if (s.line l).owner = none then t.modLine l fun x => { x with owner := some p } else t).pass

/-- The RING payload, read after the pass (R52, R188). -/
def ringPayload (s : State) (l : Fin 32) : List Byte :=
  match s.job? l with
  | none => []
  | some j =>
    [jobStateCode j.state, optByte j.phase,
     (match j.phase with | some ph => byteOf (ticksToBoundary s.pos ph) | none => absent),
     optFeed j.current, (match j.load with | some n => byteOf n | none => absent), byteOf j.cls.val,
     byteOf j.frameLimit]

def ringReply (p : Port) (line party cls limit progress : Byte) (s : State) : Reply :=
  match argLine line, argParty party, argYes progress with
  | some l, some y, some notice =>
    match (s.line l).desc.admin with
    | .disabled => refuse s .lineDisabled
    | .faulted => refuse s .lineFaulted
    | .enabled =>
      match ringRefusal p l y s with
      | some st => refuse s st
      | none =>
        let t := s.createRing p l y (ringClass p cls) (clampLimit (s.line l).desc.frameLimit limit) notice
        ⟨t, .ok, ringPayload t l⟩
  | _, _, _ => refuse s .badArgument

def execRing (p : Port) (tag line party cls limit progress : Byte) (s : State) : Result :=
  .next (request .ring p tag [line, party, cls, limit, progress] (ringReply p line party cls limit progress) s)

/-! ### CANCEL_RING (R68) -/

/-- A cancel releases the binding when, as it is taken, supervision is ON_HOOK, the drive is NONE and the drive view is
CLEAR (R68, R111). A CANCEL_REVERT in AWAIT_HANGUP keeps the binding, also between the sample that makes the caller's
on-hook finding and its taking, and the finding then reports LINE_ON_HOOK (R112, log 30). -/
def State.cancelReleases (s : State) (l : Fin 32) : Bool :=
  s.seen l == .onHook && (s.line l).drive.isNone && (s.line l).scan.view == .clear

def cancelRingReply (p : Port) (line : Byte) (s : State) : Reply :=
  match argLine line with
  | none => refuse s .badArgument
  | some l =>
    match s.job? l with
    | none => refuse s .noJob
    | some j =>
      if j.turn.isSome = true then refuse s .noJob
      else if j.owner ≠ p then refuse s .heldByOther
      else
        ⟨s.endCallAndPass l .cancelled (s.cancelReleases l), .ok,
          [jobStateCode j.state, byteOf j.framesRung, byteOf j.shedCount, Config.bindingCode (!s.cancelReleases l)]⟩

def execCancelRing (p : Port) (tag line : Byte) (s : State) : Result :=
  .next (request .cancelRing p tag [line] (cancelRingReply p line) s)

/-! ### PROMOTE (R67) -/

/-- The job states in which PROMOTE raises the class (R67). -/
def promotable : JobState → Bool
  | .waiting | .placed | .suspended => true
  | _ => false

def promotePayload (s : State) (l : Fin 32) : List Byte :=
  match s.job? l with
  | none => []
  | some j => [jobStateCode j.state, byteOf j.cls.val]

def promoteReply (p : Port) (line cls : Byte) (s : State) : Reply :=
  match argLine line with
  | none => refuse s .badArgument
  | some l =>
    match s.job? l with
    | none => refuse s .noJob
    | some j =>
      if j.owner ≠ p then refuse s .heldByOther
      else if promotable j.state = true then
        let t := (s.modJob l fun j => { j with cls := max j.cls (planeClass cls) }).pass
        ⟨t, .ok, promotePayload t l⟩
      else ⟨s, .ok, promotePayload s l⟩

def execPromote (p : Port) (tag line cls : Byte) (s : State) : Result :=
  .next (request .promote p tag [line, cls] (promoteReply p line cls) s)

/-! ### SET_POLICY (R49) -/

def setPolicyReply (policy : Byte) (s : State) : Reply :=
  match argPolicy policy with
  | none => refuse s .badArgument
  | some q =>
    if s.saving = true then refuse s .saveBusy
    else ⟨{ s with policy := q }.pass, .ok, [policyCode q]⟩

def execSetPolicy (p : Port) (tag policy : Byte) (s : State) : Result :=
  .next (request .setPolicy p tag [policy] (setPolicyReply policy) s)

/-! ### REVERT (R95, R96) -/

/-- The checks of REVERT from the fourth on (R95). A line whose on-hook finding waits is still off-hook for check 7, and
the finding then starts the ringing (R97, log 30). -/
def revertRefusal (p : Port) (l : Fin 32) (caller called : Fin 8) (s : State) : Option Status :=
  match stationIndex (s.line l).desc caller, stationIndex (s.line l).desc called with
  | some i, some k =>
    match (s.line l).owner with
    | none => some .notBound
    | some q =>
      if q ≠ p then some .heldByOther
      else if s.hasJob l = true ∨ s.hasRevert l = true then some .lineBusy
      else if s.seen l = .onHook ∨ s.seen l = .closing then some .lineOnHook
      else if (s.station i).enabled = false ∨ (s.station k).enabled = false then some .stationDisabled
      else if Config.revertTableSize ≤ s.reverts.length then some .revertFull
      else if Config.poolSize ≤ s.jobs.length then some .poolFull
      else none
  | _, _ => some .badArgument

/-- The revert record and the RESERVED job of an accepted REVERT (R96). -/
def State.createRevert (s : State) (p : Port) (l : Fin 32) (caller called : Fin 8) (ringCaller : Bool) (limit : Nat) :
    State :=
  (s.addRevert { line := l, caller := caller, called := called, ringCaller := ringCaller, owner := p,
                 state := .awaitHangup, hangupTimer := 0, frameLimit := limit }).addJob
    { line := l, party := called, station := none, owner := p, cls := 2, pattern := none, load := none, home := none,
      current := none, state := .reserved, phase := none, framesRung := 0, frameLimit := limit, progress := false,
      waitTimer := 0, shedCount := 0, turn := some .called }

def revertReply (p : Port) (line caller called ringCaller limit : Byte) (s : State) : Reply :=
  match argLine line, argParty caller, argParty called, argYes ringCaller with
  | some l, some x, some y, some rc =>
    match (s.line l).desc.admin with
    | .disabled => refuse s .lineDisabled
    | .faulted => refuse s .lineFaulted
    | .enabled =>
      match revertRefusal p l x y s with
      | some st => refuse s st
      | none =>
        let n := clampLimit (s.line l).desc.frameLimit limit
        ⟨s.createRevert p l x y rc n, .ok, [byteOf n, yesCode (rc && x != y)]⟩
  | _, _, _, _ => refuse s .badArgument

/-- The line of the argument was moved away from this plane by the TAKEOVER that put it out of service, and is bound to
the other plane (R97, R153, log 31). -/
def State.movedAway (s : State) (p : Port) (line : Byte) : Bool :=
  match argLine line, s.takenOver with
  | some l, some x => x.plane == p && x.lines.contains l && (s.line l).owner == some (otherPlane p)
  | _, _ => false

/-- A REVERT at its port (R144, R97). The TAKEOVER row of R97, to which R154 refers for this pair, gives HELD_BY_OTHER to a
REVERT from the plane that lost the line; every other REVERT from a plane out of service is refused NOT_IN_SERVICE, one
that fails an earlier check of R95 among them. DEDUCED, unsafe (log 31). -/
def revertAtPort (p : Port) (line caller called ringCaller limit : Byte) (s : State) : Reply :=
  let h := revertReply p line caller called ringCaller limit
  if s.inService p = false ∧ s.movedAway p line = true ∧ (h s).status = .heldByOther then refuse s .heldByOther
  else portControl .revert p h s

def execRevert (p : Port) (tag line caller called ringCaller limit : Byte) (s : State) : Result :=
  .next (takeFrame p tag Kind.revert.code [line, caller, called, ringCaller, limit]
    (revertAtPort p line caller called ringCaller limit) s)

/-! ### CANCEL_REVERT (R111) -/

/-- The CANCEL_REVERT payload: revert state, job state, frames rung, binding (R111, R188). -/
def cancelRevertPayload (s : State) (l : Fin 32) (r : Revert) : List Byte :=
  match s.job? l with
  | none => [revertStateCode r.state, absent, absent, Config.bindingCode (!s.cancelReleases l)]
  | some j =>
    [revertStateCode r.state, jobStateCode j.state, byteOf j.framesRung, Config.bindingCode (!s.cancelReleases l)]

def cancelRevertReply (p : Port) (line : Byte) (s : State) : Reply :=
  match argLine line with
  | none => refuse s .badArgument
  | some l =>
    match s.revert? l with
    | none => refuse s .noRevert
    | some r =>
      if r.owner ≠ p then refuse s .heldByOther
      else ⟨s.endCallAndPass l .cancelled (s.cancelReleases l), .ok, cancelRevertPayload s l r⟩

def execCancelRevert (p : Port) (tag line : Byte) (s : State) : Result :=
  .next (request .cancelRevert p tag [line] (cancelRevertReply p line) s)

end Sys2Proof.Machine
end

