-- ==== Sys2Proof/Machine/Scanner.lean ====
section
/-! DEFINITION. The line scanner: SCANNER_SAMPLE (R74 to R79, R87), BURST_GUARD_END (R77), RELAY_FAULT (R88), and the
findings that are takings of their own: OFF_HOOK_FINDING (R80), ON_HOOK_FINDING (R82, R99), FLASH_FINDING (R83),
TRIP_FINDING (R81). -/

namespace Sys2Proof.Machine

/-! ### One sample of one line (R74) -/

/-- Change the scanner's fields of a line. -/
def State.modScan (s : State) (l : Fin 32) (g : Scan → Scan) : State :=
  s.modLine l fun x => { x with scan := g x.scan }

/-- Step 1: the drive view, by whether the drive is set (R77). -/
def nextView (set : Bool) (c : Scan) : Scan :=
  match c.view, set with
  | .clear, false => c
  | .clear, true => { c with view := .burst, samples := 0, tripRun := 0 }
  | .burst, true => { c with samples := min (c.samples + 1) 65535 }
  | .burst, false => { c with view := .guard, samples := 0, tripRun := 0 }
  | .guard, false =>
    if c.samples < 9 then { c with samples := c.samples + 1 } else { c with view := .clear, samples := 0 }
  | .guard, true => { c with view := .burst, samples := 0, tripRun := 0 }

def State.viewStep (s : State) (l : Fin 32) : State := s.modScan l (nextView (s.line l).drive.isSome)

/-- The readback mismatches: OPERATED with the drive NONE, or RELEASED with it set (R87). -/
def State.mismatches (s : State) (i : LineInput) : Bool := i.operated != (s.line i.line).drive.isSome

/-- Step 2 on an ENABLED line: a match clears the mismatch run, the fifth mismatch in a run is a relay fault, taken at
once (R87, R88). -/
def State.readbackStep (s : State) (i : LineInput) : State :=
  let l := i.line
  if (s.line l).desc.admin ≠ .enabled then s
  else if s.mismatches i = false then s.modScan l fun c => { c with mismatchRun := 0 }
  else if (s.line l).scan.mismatchRun + 1 < 5 then s.modScan l fun c => { c with mismatchRun := c.mismatchRun + 1 }
  else (s.modScan l fun c => { c with mismatchRun := 0 }).takeRelayFault l

/-- Step 3 in BURST: blanking at samples 0 to 19, then the third PRESENT sample in a run is a trip, which takes the line
to OFF_HOOK. While the line is OFF_HOOK or OPENING trip sense is not counted (R79). -/
def State.tripStep (s : State) (i : LineInput) : State :=
  let l := i.line
  let x := s.line l
  if x.scan.samples < 20 ∨ isOffHook x.supervision = true ∨ i.trip = false then
    s.modScan l fun c => { c with tripRun := 0 }
  else if x.scan.tripRun + 1 < 3 then s.modScan l fun c => { c with tripRun := c.tripRun + 1 }
  else
    (s.modLine l fun x =>
      { x with supervision := .offHook, scan := { x.scan with tripRun := 0, runCount := 0 } }).makeFinding l .trip

/-- Supervision and run count of a line. -/
def State.setSupervision (s : State) (l : Fin 32) (v : Supervision) (n : Nat) : State :=
  s.modLine l fun x => { x with supervision := v, scan := { x.scan with runCount := n } }

/-- A closure that fails clears parked (R75, R85). Where the on-hook finding of a parked line still waits, the only thing
left for it was to clear the flag, since it posts nothing on a line released before it (R86): with the flag it goes too, and
so do the findings before it, which post nothing on a parked line (R80, R83). DEDUCED, unsafe (log 30). -/
def State.failClosure (s : State) (l : Fin 32) : State :=
  let t := (s.setSupervision l .onHook 0).modLine l fun x => { x with parked := false }
  if (s.line l).parked then t.voidFindings l else t

/-- Step 4 in CLEAR: the loop sample is applied to the supervision state (R75, R76, R85). -/
def State.loopStep (s : State) (i : LineInput) : State :=
  let l := i.line
  let n := (s.line l).scan.runCount
  match (s.line l).supervision, i.closed with
  | .unscanned, _ => s
  | .onHook, false => s
  | .onHook, true => s.setSupervision l .closing 1
  | .closing, true =>
    if n < 5 then s.setSupervision l .closing (n + 1) else (s.setSupervision l .offHook 0).makeFinding l .offHook
  | .closing, false => s.failClosure l
  | .offHook, true => s
  | .offHook, false => s.setSupervision l .opening 1
  | .opening, false =>
    if n < 69 then s.setSupervision l .opening (n + 1) else (s.setSupervision l .onHook 0).makeFinding l .onHook
  | .opening, true =>
    if n < 8 then s.setSupervision l .offHook 0 else (s.setSupervision l .offHook 0).makeFinding l (.flash n)

/-- Steps 3 and 4, by the drive view (R74). -/
def State.senseStep (s : State) (i : LineInput) : State :=
  match (s.line i.line).scan.view with
  | .burst => s.tripStep i
  | .clear => s.loopStep i
  | .guard => s

/-- One sample of one line, its four steps in order; an UNSCANNED line is not sampled (R74). -/
def State.sampleLine (s : State) (i : LineInput) : State :=
  if (s.line i.line).supervision = .unscanned then s
  else ((s.viewStep i.line).readbackStep i).senseStep i

/-- SCANNER_SAMPLE (R74): every scanned line in the order given (log 8). The timer does not run in HOLD and LOAD. -/
def execScannerSample (inputs : List LineInput) (s : State) : Result :=
  .next (if s.phase = .run then inputs.foldl State.sampleLine s else s)

/-- The sample of a line ends its burst guard: the view is GUARD, the drive is NONE and the count is 9 (R77). -/
def State.guardEnds (s : State) (l : Fin 32) : Bool :=
  (s.line l).supervision != .unscanned && (s.line l).scan.view == .guard && (s.line l).drive.isNone &&
    decide (9 ≤ (s.line l).scan.samples)

/-- BURST_GUARD_END (R77): the sample of the line at which the view becomes CLEAR (log 7). -/
def execBurstGuardEnd (i : LineInput) (s : State) : Result :=
  .next (if s.phase = .run ∧ s.guardEnds i.line = true then s.sampleLine i else s)

/-- The sample of a line is the fifth mismatch in a run on an ENABLED line (R87). -/
def State.relayFaultDue (s : State) (i : LineInput) : Bool :=
  (s.line i.line).supervision != .unscanned && (s.line i.line).desc.admin == .enabled && s.mismatches i &&
    decide (4 ≤ (s.line i.line).scan.mismatchRun)

/-- RELAY_FAULT (R88): the sample of the line at which the relay fault is found (log 7). -/
def execRelayFault (i : LineInput) (s : State) : Result :=
  .next (if s.phase = .run ∧ s.relayFaultDue i = true then s.sampleLine i else s)

/-! ### Findings taken (R80 to R83, R86) -/

/-- OFF_HOOK_FINDING (R80): the oldest finding of the line, an off-hook, is handed on. -/
def execOffHookFinding (l : Fin 32) (s : State) : Result :=
  .next (if s.nextFinding l = some .offHook then (s.takeFinding l).takeOffHook l else s)

/-- TRIP_FINDING (R81): the oldest finding of the line, a trip, is handed on. By R63, R64 and R81 each row of the table is
the row an off-hook finding takes on the same line. -/
def execTripFinding (l : Fin 32) (s : State) : Result :=
  .next (if s.nextFinding l = some .trip then (s.takeFinding l).takeOffHook l else s)

/-- The state of a line's job after the pass, as REVERT_RINGING gives it (R99). -/
def State.jobStateByte (s : State) (l : Fin 32) : Byte :=
  match s.job? l with
  | some j => jobStateCode j.state
  | none => 0

/-- The caller has hung up (R99): RINGING_CALLED, the job takes the called party's station and its target, one placement
pass, then REVERT_RINGING. -/
def State.startRevertRinging (s : State) (l : Fin 32) (r : Revert) : State :=
  let t := ((s.modRevert l fun r => { r with state := .ringingCalled }).modJob l (s.takeStation r.called)).pass
  t.postOwner l (t.partyEvent .revertRinging l r.called (detail 0 (t.jobStateByte l)))

/-- Steps 2 and 3 of R82: a bound line posts LINE_ON_HOOK and is released, an outstanding origination is abandoned. -/
def State.reportOnHook (s : State) (l : Fin 32) : State :=
  if (s.line l).owner.isSome then
    (s.postOwner l (s.lineEvent .lineOnHook l 0)).modLine l fun x => { x with owner := none }
  else if s.offered l then s.abandonOrigination l
  else s

/-- An on-hook finding is handed on (R82, R100): consumed by a revert in AWAIT_HANGUP, ignored by a ringing revert
(log 11), reported otherwise; then parked is cleared. -/
def State.takeOnHook (s : State) (l : Fin 32) : State :=
  let t : State :=
    match s.revert? l with
    | some r => if r.state = .awaitHangup then s.startRevertRinging l r else s
    | none => s.reportOnHook l
  t.modLine l fun x => { x with parked := false }

/-- ON_HOOK_FINDING (R82). -/
def execOnHookFinding (l : Fin 32) (s : State) : Result :=
  .next (if s.nextFinding l = some .onHook then (s.takeFinding l).takeOnHook l else s)

/-- A flash finding is handed on (R83): LINE_FLASH to the owner of a bound line without a revert, nothing otherwise. -/
def State.takeFlash (s : State) (l : Fin 32) (duration : Nat) : State :=
  if s.hasRevert l then s else s.postOwner l (s.lineEvent .lineFlash l (detail 0 (byteOf duration)))

/-- FLASH_FINDING (R83). -/
def execFlashFinding (l : Fin 32) (s : State) : Result :=
  .next (match s.nextFinding l with
    | some (.flash n) => (s.takeFinding l).takeFlash l n
    | _ => s)

end Sys2Proof.Machine
end

