-- ==== Sys2Proof/Machine/Startup.lean ====
section
/-! DEFINITION. Resets, start-up and the end of a SAVE (chapter 11): POWER_ON_RESET, SUPPLY_DIP, RESET_PIN,
COMMANDED_RESET (R176, R178, R179, R185), LOAD (R180), RUN (R181), SAVE_DONE (R183). -/

namespace Sys2Proof.Machine

/-! ### The writes of a SAVE (R183) -/

/-- The addresses steps 2 and 3 write, in order: version, length, section flags, body, then the check (R183). -/
def saveOrder : List Nat := [2, 4, 5, 3] ++ (List.range 1125).map (8 + ·) ++ [6, 7]

/-- The writes of steps 1 to 3, in order; the clear of the signature is the first (R183, log 15). -/
def saveOps (contents : List Byte) : List (List Host.Cell) :=
  clearedSignature :: saveOrder.map fun a => [(a, contents.getD a 0)]

/-- The memory once the first `n` writes of steps 1 to 3 are done. -/
def SaveInFlight.written (v : SaveInFlight) (n : Nat) : Memory :=
  Memory.writeAll v.before ((saveOps v.contents).take n).flatten

/-! ### Resets (R176, R178, R179, R185) -/

/-- A reset cuts a SAVE in flight (R185): the memory holds what had been written, the signature never among it. How far
it had got is a free value (log 14). -/
def State.cutSave (s : State) : State :=
  match s.save with
  | none => s
  | some v =>
    { s with image := v.written (Config.savedWrites s.freeCount), freeCount := s.freeCount + 1, save := none }

/-- Any reset takes effect: HOLD, and everything at its value after a reset but what a reset keeps (R178): the cause
set, the fault record and missed kinds as held (R170, R176), the configuration source, the configuration memory. A reset
in LOAD falls after what LOAD did (log 33). -/
def State.enterHold (s : State) : State :=
  let t := s.cutSave
  { State.reset with
    faultRecord := t.faultRecord, missed := t.missed, causes := s.causes, source := t.source, image := t.image,
    freeCount := t.freeCount, pending := s.pending }

/-- Fault capture is emptied by a power-on and by a supply dip (R176). -/
def State.emptyFaults (s : State) : State := { s with faultRecord := none, missed := .empty }

/-- POWER_ON_RESET: the cause set is emptied, then POWER is added (R179). -/
def execPowerOnReset (s : State) : Result :=
  .next { s.enterHold.emptyFaults with causes := { Causes.empty with power := true } }

/-- SUPPLY_DIP: SUPPLY is added, PIN and COMMANDED are removed (R179). -/
def execSupplyDip (s : State) : Result :=
  .next { s.enterHold.emptyFaults with causes := { s.causes with supply := true, pin := false, commanded := false } }

/-- RESET_PIN: PIN is added; the fault record is kept (R176, R179). -/
def execResetPin (s : State) : Result := .next { s.enterHold with causes := { s.causes with pin := true } }

/-- COMMANDED_RESET: takes effect when the response to RESET has been sent (R163, R186, log 20); COMMANDED is added, the
fault record is kept (R176, R179). -/
def execCommandedReset (s : State) : Result :=
  .next (if s.resetStage = .due then { s.enterHold with causes := { s.causes with commanded := true } } else s)

/-! ### LOAD (R22, R180) -/

/-- Every section at its default (R180). -/
def State.loadDefaults (s : State) : State :=
  { s with
    lines := Vector.replicate 32 Line.reset
    stations := Vector.replicate 192 Station.default
    patterns := Vector.ofFn Pattern.default
    feeds := Vector.replicate 5 FeedRecord.reset
    policy := .byClass }

/-- A line record of the image is put in the table unless R22 replaces it; the lines before it are already there, the
lines after it still hold the default, whose range is empty. -/
def State.loadLine (m : Memory) (s : State) (n : Fin 32) : State :=
  match readLineRecord m n with
  | none => s
  | some d => if s.overlapsOther n d then s else s.modLine n fun x => { x with desc := d }

/-- The feed whose place among the five is given. -/
def feedAt (i : Fin 5) : Feed := (allFeeds[i.val]?).getD .f1

/-- The sections of a valid image with these section flags (R180). -/
def State.loadImage (s : State) (m : Memory) (flags : Byte) : State :=
  let t := allLines.foldl (State.loadLine m) s.loadDefaults
  { t with
    stations := Vector.ofFn (readStationRecord m)
    patterns := if flags.getLsbD 0 then Vector.ofFn (readPatternRecord m) else t.patterns
    feeds := if flags.getLsbD 1 then Vector.ofFn fun i => readFeedRecord m (feedAt i) else t.feeds
    policy := readPolicy m }

/-- A byte that validity needs: every byte but the section flags (R177). -/
def neededForValidity (a : Nat) : Bool := decide (a < Config.imageSize) && a != 3

/-- The image is valid, `silent` being the addresses whose reads the memory does not answer (R177, R180). -/
def loadValid (m : Memory) (silent : List Nat) : Bool := imageValid m && !silent.any neededForValidity

/-- A valid image is taken; the section flags are a free value where the memory does not answer their read (R180,
log 13). -/
def State.takeImage (s : State) (silent : List Nat) : State :=
  let t := { s with source := .image }
  if silent.contains 3 then
    { t with freeCount := t.freeCount + 1 }.loadImage s.image (Config.unansweredFlags s.freeCount)
  else t.loadImage s.image (Memory.read s.image 3)

/-- Fault capture receives IMAGE_INVALID in LOAD (R176, R180): an EMPTY record becomes FULL with stamp 0, its
FAULT_CAPTURED held until RUN begins; a FULL one takes the kind into the missed kinds, and nothing is held. -/
def State.captureInLoad (s : State) : State :=
  match s.faultRecord with
  | none =>
    { s with
      faultRecord := some { kind := .imageInvalid, feed := none, line := none, stamp := 0 }, heldCapture := true }
  | some _ => { s with missed := s.missed.add .imageInvalid }

/-- HOLD ends and LOAD reads and judges the image, as one step (R178, R180, log 33). -/
def State.load (s : State) (silent : List Nat) : State :=
  let t := { s with phase := .load, heldCapture := false }
  if loadValid s.image silent then t.takeImage silent
  else ({ t with source := .defaults }).loadDefaults.captureInLoad

/-- LOAD (R180), from HOLD. -/
def execLoad (silent : List Nat) (s : State) : Result := .next (if s.phase = .hold then s.load silent else s)

/-! ### RUN (R181) -/

/-- Where this LOAD filled the fault record with IMAGE_INVALID its FAULT_CAPTURED is posted, with stamp 0 (R176, R181
step 4). -/
def State.postHeldCapture (s : State) : State :=
  if s.heldCapture then { s.enqueue .m (s.capturedEvent .imageInvalid none none) with heldCapture := false } else s

/-- START carries the configuration source and the cause set (R181 step 3). -/
def State.startEvent (s : State) : Event :=
  s.plainEvent .start (detail (sourceCode s.source) (causeByte s.causes))

/-- RUN begins: position and stamp 0, every ENABLED line restarts supervision, START, then the FAULT_CAPTURED
that this LOAD holds (R181). -/
def State.beginRun (s : State) : State :=
  let t := allLines.foldl State.restartIfEnabled { s with phase := .run, pos := 0, stamp := 0 }
  (t.enqueue .m t.startEvent).postHeldCapture

/-- RUN (R181), from LOAD. -/
def execRun (s : State) : Result := .next (if s.phase = .load then s.beginRun else s)

/-! ### The end of a SAVE (R183) -/

/-- Whether a byte that the memory holds otherwise than written can be one of those written by the first `n + 1` writes
of steps 1 to 3: after an acknowledged clear the signature is none of them (R183, log 15). -/
def garbles (contents : List Byte) (n : Nat) (c : Host.Cell) : Bool :=
  (((saveOps contents).take (n + 1)).flatten.any fun w => w.1 == c.1) && (n == 0 || decide (2 ≤ c.1))

/-- Step 4: every byte but the signature reads as it was written (R183). -/
def readsBack (m : Memory) (contents : List Byte) : Bool :=
  (List.range 1131).all fun i => Memory.read m (2 + i) == contents.getD (2 + i) 0

/-- The signature as step 5 writes it. -/
def signatureCells : List Host.Cell := [(0, Config.signature.1), (1, Config.signature.2)]

/-- The signature reads as it was written (R183 step 5). -/
def signatureReads (m : Memory) : Bool :=
  Memory.read m 0 == Config.signature.1 && Memory.read m 1 == Config.signature.2

/-- The memory after steps 1 to 3, as far as the memory acknowledged them. -/
def SaveInFlight.body (v : SaveInFlight) (r : SaveReport) : Memory :=
  Memory.writeAll (v.written r.acks) (r.garbled.filter (garbles v.contents r.acks))

/-- Steps 1 to 4 succeed: every write and read is acknowledged and every comparison agrees (R183). -/
def SaveInFlight.bodySucceeds (v : SaveInFlight) (r : SaveReport) : Bool :=
  decide ((saveOps v.contents).length ≤ r.acks) && r.answers && readsBack (v.body r) v.contents

/-- The memory after the signature is written in step 5. -/
def SaveInFlight.signed (v : SaveInFlight) (r : SaveReport) : Memory :=
  Memory.writeAll (Memory.writeAll (v.body r) signatureCells) (r.garbled.filter fun c => decide (c.1 < 2))

/-- The SAVE succeeds (R183). -/
def SaveInFlight.succeeds (v : SaveInFlight) (r : SaveReport) : Bool :=
  v.bodySucceeds r && r.signatureAnswers && signatureReads (v.signed r)

/-- The memory as the SAVE leaves it (R183): complete on success; with the signature left clear where steps 1 to 4
fail; with the signature cleared again, if the memory takes that clear, where step 5 fails. -/
def SaveInFlight.final (v : SaveInFlight) (r : SaveReport) : Memory :=
  if v.bodySucceeds r = false then v.body r
  else if v.succeeds r = true then v.signed r
  else if r.clearsAgain = true then Memory.writeAll (v.signed r) clearedSignature
  else v.signed r

/-- SAVE_DONE with its result, OK or FAILED (R183, R188). -/
def State.saveDoneEvent (s : State) (ok : Bool) : Event := s.plainEvent .saveDone (detail 0 (if ok then 0 else 1))

/-- The SAVE completes: the image stands as the SAVE leaves it, SAVE_DONE goes to Port M, and a failure is then captured
(R183). -/
def State.completeSave (s : State) (v : SaveInFlight) (r : SaveReport) : State :=
  let t := { s with image := v.final r, save := none }
  let u := t.enqueue .m (t.saveDoneEvent (v.succeeds r))
  if v.succeeds r then u else u.capture .saveFailed none none

/-- The first byte of a report that is no byte of the image (log 26). -/
def outsideByte (r : SaveReport) : Option Nat := (r.garbled.find? fun c => !decide (c.1 < Config.imageSize)).map (·.1)

/-- SAVE_DONE (R183): the end of the SAVE in flight, by how the memory answered (log 15). -/
def execSaveDone (r : SaveReport) (s : State) : Result :=
  match s.save, outsideByte r with
  | none, _ => .next s
  | some _, some a => .fault (.outsideImage a)
  | some v, none => .next (s.completeSave v r)

end Sys2Proof.Machine
end

