-- ==== Sys2Proof/Machine/Dispatch.lean ====
section
/-! DEFINITION. One arm for each command: its meaning, called with its operands. -/

namespace Sys2Proof.Machine

/-- The meaning of each command: one arm, one meaning. -/
def exec (i : Instr) (s : State) : Host.Outcome State Fault Refusal :=
  match i with
  | .openPlane p tag => Sys2Proof.Machine.execOpenPlane p tag s
  | .closePlane p tag => Sys2Proof.Machine.execClosePlane p tag s
  | .claim p tag line serial => Sys2Proof.Machine.execClaim p tag line serial s
  | .release p tag line => Sys2Proof.Machine.execRelease p tag line s
  | .takeover p tag => Sys2Proof.Machine.execTakeover p tag s
  | .ring p tag line party cls limit progress => Sys2Proof.Machine.execRing p tag line party cls limit progress s
  | .cancelRing p tag line => Sys2Proof.Machine.execCancelRing p tag line s
  | .promote p tag line cls => Sys2Proof.Machine.execPromote p tag line cls s
  | .revert p tag line caller called ringCaller limit => Sys2Proof.Machine.execRevert p tag line caller called ringCaller limit s
  | .cancelRevert p tag line => Sys2Proof.Machine.execCancelRevert p tag line s
  | .setPolicy p tag policy => Sys2Proof.Machine.execSetPolicy p tag policy s
  | .fetch p tag => Sys2Proof.Machine.execFetch p tag s
  | .lineStatus p tag line => Sys2Proof.Machine.execLineStatus p tag line s
  | .feedStatus p tag feed => Sys2Proof.Machine.execFeedStatus p tag feed s
  | .portStatus p tag => Sys2Proof.Machine.execPortStatus p tag s
  | .readLine p tag line => Sys2Proof.Machine.execReadLine p tag line s
  | .readStation p tag line party => Sys2Proof.Machine.execReadStation p tag line party s
  | .readPattern p tag pattern => Sys2Proof.Machine.execReadPattern p tag pattern s
  | .readFeed p tag feed => Sys2Proof.Machine.execReadFeed p tag feed s
  | .readFault p tag => Sys2Proof.Machine.execReadFault p tag s
  | .writeLine p tag line admin base count allowance limit guarded => Sys2Proof.Machine.execWriteLine p tag line admin base count allowance limit guarded s
  | .writeStation p tag line party enabled home side pattern load selective guarded => Sys2Proof.Machine.execWriteStation p tag line party enabled home side pattern load selective guarded s
  | .writePattern p tag pattern count on1 off1 on2 off2 on3 off3 on4 off4 => Sys2Proof.Machine.execWritePattern p tag pattern count on1 off1 on2 off2 on3 off3 on4 off4 s
  | .writeFeed p tag feed freq capacity fallback => Sys2Proof.Machine.execWriteFeed p tag feed freq capacity fallback s
  | .resetLine p tag line => Sys2Proof.Machine.execResetLine p tag line s
  | .save p tag => Sys2Proof.Machine.execSave p tag s
  | .reset p tag => Sys2Proof.Machine.execReset p tag s
  | .clearFault p tag => Sys2Proof.Machine.execClearFault p tag s
  | .clearFeedFault p tag feed => Sys2Proof.Machine.execClearFeedFault p tag feed s
  | .forceSenseLoss p tag feed value => Sys2Proof.Machine.execForceSenseLoss p tag feed value s
  | .clearCause p tag => Sys2Proof.Machine.execClearCause p tag s
  | .badRequest p tag kind args => Sys2Proof.Machine.execBadRequest p tag kind args s
  | .linkByteReceived p byte stopHigh => Sys2Proof.Machine.execLinkByteReceived p byte stopHigh s
  | .byteGapTimeout p => Sys2Proof.Machine.execByteGapTimeout p s
  | .responseSent p => Sys2Proof.Machine.execResponseSent p s
  | .cadenceTick => Sys2Proof.Machine.execCadenceTick s
  | .noAnswer line => Sys2Proof.Machine.execNoAnswer line s
  | .waitExpired line => Sys2Proof.Machine.execWaitExpired line s
  | .noHangup line => Sys2Proof.Machine.execNoHangup line s
  | .scannerSample inputs => Sys2Proof.Machine.execScannerSample inputs s
  | .burstGuardEnd input => Sys2Proof.Machine.execBurstGuardEnd input s
  | .offHookFinding line => Sys2Proof.Machine.execOffHookFinding line s
  | .onHookFinding line => Sys2Proof.Machine.execOnHookFinding line s
  | .flashFinding line => Sys2Proof.Machine.execFlashFinding line s
  | .tripFinding line => Sys2Proof.Machine.execTripFinding line s
  | .relayFault input => Sys2Proof.Machine.execRelayFault input s
  | .feedSample inputs => Sys2Proof.Machine.execFeedSample inputs s
  | .feedFail feed => Sys2Proof.Machine.execFeedFail feed s
  | .feedRecovery feed => Sys2Proof.Machine.execFeedRecovery feed s
  | .fbRecovery => Sys2Proof.Machine.execFbRecovery s
  | .batteryReading reading => Sys2Proof.Machine.execBatteryReading reading s
  | .batteryState reading => Sys2Proof.Machine.execBatteryState reading s
  | .referenceLost => Sys2Proof.Machine.execReferenceLost s
  | .referenceRestored gap => Sys2Proof.Machine.execReferenceRestored gap s
  | .powerOnReset => Sys2Proof.Machine.execPowerOnReset s
  | .supplyDip => Sys2Proof.Machine.execSupplyDip s
  | .resetPin => Sys2Proof.Machine.execResetPin s
  | .commandedReset => Sys2Proof.Machine.execCommandedReset s
  | .load silent => Sys2Proof.Machine.execLoad silent s
  | .run => Sys2Proof.Machine.execRun s
  | .saveDone report => Sys2Proof.Machine.execSaveDone report s
  | .referenceEdge gap => Sys2Proof.Machine.execReferenceEdge gap s

end Sys2Proof.Machine
end

