-- ==== Sys2Proof/Safety.lean ====
section
/-! DEFINITION. What the manual says is true of the part at every moment, and when a request is taken. Claims are
stated in these words. -/

namespace Sys2Proof.Machine

/-! ### A line as requests meet it -/

/-- The findings of a line that have not been handed on, oldest first (log 9). -/
def findingsOf (s : State) (l : Fin 32) : List FindingKind :=
  (s.findings.filter fun x => x.line == l).map (·.kind)

/-- The supervision of a line as requests and endings meet it: off-hook while a finding waits, as OPENING where that
finding is the hang-up; the scanner's own state otherwise (R53, R86, log 30). -/
def supervisionMet (s : State) (l : Fin 32) : Supervision :=
  match findingsOf s l with
  | [] => (s.line l).supervision
  | .onHook :: _ => .opening
  | _ :: _ => .offHook

/-- Requests and endings meet the line off-hook: OFF_HOOK or OPENING (R76). -/
def MetOffHook (s : State) (l : Fin 32) : Prop := supervisionMet s l = .offHook ∨ supervisionMet s l = .opening

/-- The next finding of the line to be handed on is an off-hook or a trip. -/
def OffHookWaits (s : State) (l : Fin 32) : Prop :=
  (findingsOf s l).head? = some .offHook ∨ (findingsOf s l).head? = some .trip

/-- An origination is outstanding (R12, R84, R146), its finding being taken already (log 10). -/
def OriginationStands (s : State) (l : Fin 32) : Prop :=
  (s.line l).desc.admin = .enabled ∧ MetOffHook s l ∧ (s.line l).owner = none ∧ (s.line l).parked = false ∧
  s.job? l = none ∧ s.revert? l = none ∧ ¬OffHookWaits s l

/-! ### Promises of the whole part -/

/-- The configuration memory, and the copy a SAVE in flight keeps of it, are in canonical form. -/
def MemoryCanonical (s : State) : Prop :=
  Memory.wf s.image = true ∧ ∀ v, s.save = some v → Memory.wf v.before = true

/-- No event queue holds more than 32 events (R166). -/
def QueuesBounded (s : State) : Prop := ∀ p, (s.port p).queue.length ≤ 32

/-- The pool holds at most 24 jobs, no two for the same line (R45). -/
def PoolBounded (s : State) : Prop := s.jobs.length ≤ 24 ∧ (s.jobs.map (·.line)).Nodup

/-- The revert table holds at most 8 records, no two for the same line (R93). -/
def RevertsBounded (s : State) : Prop := s.reverts.length ≤ 8 ∧ (s.reverts.map (·.line)).Nodup

/-- Outside RUN there is no job, no revert and no finding (R45, R92, R178, log 9). -/
def WorkOnlyInRun (s : State) : Prop := s.phase ≠ .run → s.jobs = [] ∧ s.reverts = [] ∧ s.findings = []

/-- Every count stays in its range: frames rung below the limit, which is 1 to 60, and the wait timer and hang-up timer
below 300, since the job or revert ends where they are reached; the shed count at most 255 (R41, R46, R59, R61, R92,
R98). -/
def CountsInRange (s : State) : Prop :=
  (∀ j ∈ s.jobs, j.framesRung < j.frameLimit ∧ j.frameLimit ≤ 60 ∧ j.waitTimer < 300 ∧ j.shedCount ≤ 255) ∧
  ∀ r ∈ s.reverts, r.hangupTimer < 300 ∧ 1 ≤ r.frameLimit ∧ r.frameLimit ≤ 60

/-- The runs that the scanner counts on a line stay below the number that ends them (R73, R75, R76, R79, R87). -/
def RunsOfLine (x : Line) : Prop :=
  (match x.supervision with
    | .closing => 1 ≤ x.scan.runCount ∧ x.scan.runCount ≤ 5
    | .opening => 1 ≤ x.scan.runCount ∧ x.scan.runCount ≤ 69
    | _ => x.scan.runCount = 0) ∧
  (match x.scan.view with
    | .clear => x.scan.samples = 0
    | .burst => x.scan.samples ≤ 65535
    | .guard => x.scan.samples ≤ 9) ∧
  x.scan.tripRun < 3 ∧ x.scan.mismatchRun < 5

/-- The runs that the monitors count stay below the number that ends them (R73, R118, R134). -/
def RunsInRange (s : State) : Prop :=
  (∀ l, RunsOfLine (s.line l)) ∧ (∀ f, (s.feed f).absentRun < 30 ∧ (s.feed f).presentRun < 500) ∧ s.battery.count < 4

/-- The missed-kind set is empty whenever the fault record is (R170). -/
def MissedNeedARecord (s : State) : Prop := s.faultRecord = none → s.missed = .empty

/-- A FAULT_CAPTURED is held in LOAD alone, for a record that holds IMAGE_INVALID with stamp 0 (R176). -/
def CaptureHeldInLoad (s : State) : Prop :=
  s.heldCapture = true → s.phase = .load ∧
    s.faultRecord = some { kind := .imageInvalid, feed := none, line := none, stamp := 0 }

/-- The plane that was taken over is out of service until it opens (R153). -/
def TakenOverIsOut (s : State) : Prop :=
  ∀ x, s.takenOver = some x → isPlane x.plane = true ∧ s.inService x.plane = false

/-- The row of R97 applies to a REVERT of this plane on this line: the TAKEOVER that put the plane out of service moved the
line, and it is bound to the other plane (R153, log 31). -/
def MovedAway (s : State) (p : Port) (l : Fin 32) : Prop :=
  (∃ x, s.takenOver = some x ∧ x.plane = p ∧ l ∈ x.lines) ∧
  ∃ q, (s.line l).owner = some q ∧ isPlane q = true ∧ q ≠ p

/-- No job stands on a FAILED feed (R131). -/
def NoJobOnFailedFeed (s : State) : Prop := ∀ j ∈ s.jobs, ∀ f, j.current = some f → (s.feed f).state = .good

/-- A line with a job or a revert is bound to its owner, a revert's being a plane; a bound line is not parked
(R93, R148, R149, R155). -/
def LinesBound (s : State) : Prop :=
  (∀ l j, s.job? l = some j → (s.line l).owner = some j.owner) ∧
  (∀ l r, s.revert? l = some r → (s.line l).owner = some r.owner ∧ r.owner ≠ .m) ∧
  ∀ l, (s.line l).owner ≠ none → (s.line l).parked = false

/-- The findings of a line follow one another as the loop does, and the last of them is the one that brought
supervision where it is: on-hook after an on-hook finding, off-hook after any other (R75, R76, R79). -/
def FindingsMatch (s : State) : Prop :=
  ∀ l, (∀ k, (findingsOf s l).getLast? = some k →
      (k = .onHook → (s.line l).supervision = .onHook ∨ (s.line l).supervision = .closing) ∧
      (k ≠ .onHook → (s.line l).supervision = .offHook ∨ (s.line l).supervision = .opening)) ∧
    (findingsOf s l).IsChain fun k m => k = .onHook ↔ m = .offHook ∨ m = .trip

/-- A job that rings or waits to ring stands on a line met on-hook, or one whose next finding ends it; a revert in
AWAIT_HANGUP and the parked flag stand on a line met off-hook (R51, R64, R85, R95, R113, log 30). -/
def WorkMatchesTheHook (s : State) : Prop :=
  (∀ l j, s.job? l = some j → (∀ r, s.revert? l = some r → r.state ≠ .awaitHangup) →
    ¬MetOffHook s l ∨ OffHookWaits s l) ∧
  (∀ l r, s.revert? l = some r → r.state = .awaitHangup → MetOffHook s l) ∧
  ∀ l, (s.line l).parked = true → MetOffHook s l

/-- The load placed on a feed never exceeds its effective capacity at any position (R35). -/
def WithinCapacity (s : State) : Prop := ∀ (f : Feed) (t : Fin 60), s.profile f t.val ≤ s.effectiveCapacity f

/-- While the level is CRITICAL no job of class 0 or 1 is PLACED or RINGING (R39). -/
def GateHolds (s : State) : Prop := s.battery.level = .critical → ∀ j ∈ s.jobs, j.placed = true → 2 ≤ j.cls.val

/-- What a job holds in each of its states (R46, R50). -/
def JobShape (j : Job) : Prop :=
  match j.state with
  | .reserved =>
    j.station = none ∧ j.pattern = none ∧ j.load = none ∧ j.home = none ∧ j.current = none ∧ j.phase = none
  | _ =>
    j.station.isSome = true ∧ j.pattern.isSome = true ∧ j.load.isSome = true ∧ j.home.isSome = true ∧
    (j.phase.isSome = true ↔ j.placed = true) ∧ (j.current.isSome = true ↔ j.state ≠ .suspended)

/-- Every job holds what its state says (R50). -/
def JobsShaped (s : State) : Prop := ∀ j ∈ s.jobs, JobShape j

/-- A line's drive is set only while its job is RINGING, and carries the job's current feed with the side of its station
(R10, R57). -/
def DriveOnlyRinging (s : State) : Prop :=
  ∀ l d, (s.line l).drive = some d →
    ∃ j i, s.job? l = some j ∧ j.state = .ringing ∧ j.current = some d.feed ∧ j.station = some i ∧
      d.side = (s.station i).side

/-- A job that holds a station holds that of its party, and what it copied agrees with the record (R4, R10, R16, R46). -/
def CopiesAgree (s : State) : Prop :=
  ∀ j ∈ s.jobs, ∀ i, j.station = some i →
    let d := (s.line j.line).desc
    j.party.val < d.count ∧ i.val = d.base.val + j.party.val ∧ j.home = some (s.station i).home ∧
    j.pattern = some (s.station i).pattern ∧ j.load = some ((s.station i).load + d.allowance)

/-- A plane out of service holds no event, no overflow and no line (R148, R153, R155). -/
def OutOfServiceQuiet (s : State) : Prop :=
  ∀ p, s.inService p = false →
    (s.port p).queue = [] ∧ (s.port p).overflow = false ∧ ∀ l, (s.line l).owner ≠ some p

/-- A DISABLED line is UNSCANNED and has no binding, no job, no revert and no parked flag (R5). -/
def DisabledIdle (s : State) : Prop :=
  ∀ l, (s.line l).desc.admin = .disabled →
    (s.line l).supervision = .unscanned ∧ (s.line l).owner = none ∧ (s.line l).parked = false ∧
    s.hasJob l = false ∧ s.hasRevert l = false

/-- In RUN an ENABLED line is scanned (R8, R73, R89). -/
def EnabledScanned (s : State) : Prop :=
  s.phase = .run → ∀ l, (s.line l).desc.admin = .enabled → (s.line l).supervision ≠ .unscanned

/-- No two station ranges overlap, and every one lies within the pool (R7). -/
def RangesDisjoint (s : State) : Prop :=
  (∀ l, (s.line l).desc.base.val + (s.line l).desc.count ≤ 192) ∧
  ∀ l k, l ≠ k → rangesOverlap (s.line l).desc (s.line k).desc = false

/-- Every line descriptor, station, pattern and feed record is within its ranges (R3, R7, R10, R23, R33, R116). -/
def RecordsInRange (s : State) : Prop :=
  (∀ l, (s.line l).desc.count ≤ 8 ∧ (s.line l).desc.allowance ≤ 30 ∧ 1 ≤ (s.line l).desc.frameLimit ∧
    (s.line l).desc.frameLimit ≤ 60 ∧ ((s.line l).desc.admin ≠ .disabled → 1 ≤ (s.line l).desc.count)) ∧
  (∀ i, 1 ≤ (s.station i).load ∧ (s.station i).load ≤ 50 ∧ (s.station i).home ≠ .fb) ∧
  (∀ k, 1 ≤ (s.pattern k).bursts.length ∧ (s.pattern k).bursts.length ≤ 4 ∧
    burstsInRange (s.pattern k).bursts = true ∧ burstsWithinSums (s.pattern k).bursts = true) ∧
  ∀ f, (s.feed f).freq ≤ 5 ∧ (s.feed f).capacity ≤ capacityTop f ∧ (f = .fb → (s.feed f).fallback = false)

/-- Reverts and revert jobs come in pairs, one of each for a line, and the job is RESERVED exactly while its revert is in
AWAIT_HANGUP; no ordinary job is RESERVED (R50, R92, R94, R96, R109). -/
def RevertsPaired (s : State) : Prop :=
  ∀ l, (s.hasRevert l = true ↔ ∃ j, s.job? l = some j ∧ j.turn.isSome = true) ∧
    ∀ j, s.job? l = some j → (j.state = .reserved ↔ ∃ r, s.revert? l = some r ∧ r.state = .awaitHangup)

/-- Both parties of every revert are parties of its line, with stations in the pool (R96, R12). -/
def RevertsNameStations (s : State) : Prop :=
  ∀ r ∈ s.reverts, let d := (s.line r.line).desc
    r.caller.val < d.count ∧ r.called.val < d.count ∧ d.base.val + r.caller.val < 192 ∧ d.base.val + r.called.val < 192

/-! ### Taking commands -/

/-- Several commands taken one after another, up to the first that stops the part. -/
def takeAll : List Instr → State → Host.Outcome State Fault Refusal
  | [], s => .next s
  | c :: rest, s =>
    match exec c s with
    | .next t => takeAll rest t
    | .fault x => .fault x
    | .refused x => .refused x

/-- In RUN a port can have a request taken: its receive buffer is empty (R160). -/
def Ready (s : State) (p : Port) : Prop := s.phase = .run ∧ (s.port p).buffer = none

/-- A request's checks in order: the first that fails gives its status, and where none fails `accepted` holds (R161). -/
def ChecksInOrder (refused : Byte → Prop) (accepted : Prop) : List (Prop × Byte) → Prop
  | [] => accepted
  | (fails, code) :: rest => (fails → refused code) ∧ (¬fails → ChecksInOrder refused accepted rest)

/-- Only the ports differ. -/
def SameButPorts (s t : State) : Prop := t = { s with ports := t.ports }

/-- Every line but `l` is as it was. -/
def OtherLinesSame (s t : State) (l : Fin 32) : Prop := ∀ k, k ≠ l → t.line k = s.line k

/-- The port `p` holds the taken frame `body` and sends `response`; its receiver, and the receivers, buffers and
responses of the other ports, are as they were. Queues are spoken of elsewhere. -/
def Sends (s t : State) (p : Port) (body response : List Byte) : Prop :=
  (t.port p).buffer = some ⟨body, true⟩ ∧ (t.port p).response = some response ∧
  (t.port p).receiver = (s.port p).receiver ∧
  ∀ q, q ≠ p →
    (t.port q).buffer = (s.port q).buffer ∧ (t.port q).response = (s.port q).response ∧
    (t.port q).receiver = (s.port q).receiver

/-- No queue and no overflow flag differs. -/
def QueuesSame (s t : State) : Prop :=
  ∀ q, (t.port q).queue = (s.port q).queue ∧ (t.port q).overflow = (s.port q).overflow

/-- The port `p` answers with this response and no queue or flag differs. -/
def Answers (s t : State) (p : Port) (body response : List Byte) : Prop :=
  Sends s t p body response ∧ QueuesSame s t

/-- The command is answered on port `p` with this status and no payload, and nothing else changes (R161). -/
def Refuses (c : Instr) (s : State) (p : Port) (tag kind : Byte) (args : List Byte) (code : Byte) : Prop :=
  ∃ t, exec c s = .next t ∧ SameButPorts s t ∧ Answers s t p (tag :: kind :: args) [tag, kind ||| 0x80, code]

/-- A port's queue and flag once a copy of an event has been routed to it (R166). -/
def received (r : PortRecord) (e : Event) : PortRecord :=
  if r.queue.length < 32 then { r with queue := r.queue ++ [e] } else { r with overflow := true }

/-- The event stands in the queue, or it found the queue full and set the flag (R166). -/
def Reported (r : PortRecord) (e : Event) : Prop := e ∈ r.queue ∨ (32 ≤ r.queue.length ∧ r.overflow = true)

/-- Every plane in service receives a copy; no other port changes (R155). -/
def PlanesReceive (s t : State) (e : Event) : Prop :=
  ∀ q, t.port q = if isPlane q && s.inService q then received (s.port q) e else s.port q

/-- Port M and every plane in service receive a copy (R155). -/
def AllReceive (s t : State) (e : Event) : Prop :=
  ∀ q, t.port q = if s.inService q then received (s.port q) e else s.port q

/-- One port receives the event; no other port changes (R155). -/
def OneReceives (s t : State) (p : Port) (e : Event) : Prop :=
  ∀ q, t.port q = if q = p then received (s.port q) e else s.port q

/-- What capturing a fault does to the record and the set, and to Port M's queue `m`, which is `m'` after it
(R172, R173). -/
def Captures (s t : State) (m m' : PortRecord) (k : FaultKind) (f : Option Feed) (l : Option (Fin 32)) : Prop :=
  match s.faultRecord with
  | none =>
    t.faultRecord = some { kind := k, feed := f, line := l, stamp := s.stamp } ∧ t.missed = s.missed ∧
    m' = received m
      { kind := .faultCaptured, line := l, party := none,
        detail := faultCode k ++ (match f with | some f => feedCode f | none => 0xFF),
        serial := none, stamp := s.stamp }
  | some _ => t.faultRecord = s.faultRecord ∧ t.missed = s.missed.add k ∧ m' = m

/-! ### The pool after an event -/

/-- The pool once the work of a line has ended outside an expiry: the job of the line is gone, and one pass has run where it
held a reservation, none where it held none (R54, R71, R109). -/
def PoolAfterEnding (s t : State) (l : Fin 32) : Prop :=
  let u : State := { s with jobs := s.jobs.filter fun j => j.line != l }
  t.jobs =
    match s.job? l with
    | some j => if j.state = .placed ∨ j.state = .ringing then u.pass.jobs else u.jobs
    | none => u.jobs

/-- Target selection: the state and the current feed that R47 gives a job with this home feed. -/
def chosenTarget (s : State) (home : Feed) (selective : Bool) : JobState × Option Feed :=
  if (s.feed home).state = .good then (.waiting, some home)
  else if selective = false ∧ (s.feed home).fallback = true ∧ (s.feed .fb).state = .good then (.waiting, some .fb)
  else (.suspended, none)

/-- The coming expiry ends a frame of the job (R59). -/
def frameEndsNow (s : State) (j : Job) : Bool :=
  match j.phase with
  | some ph => j.state == .ringing && (s.pos.val + 1) % 60 == 5 * ph.val
  | none => false

/-- The revert by which a frame end of the job makes a turn: it rings the caller, and its parties differ (R103). -/
def turnNow (s : State) (j : Job) : Option Revert :=
  (s.revert? j.line).filter fun r => r.ringCaller && r.caller != r.called

/-- At its frame end the job returns from FB to its home feed, which is GOOD (R123). -/
def returnNow (s : State) (j : Job) : Bool :=
  match j.home with
  | some h => j.current == some .fb && (s.feed h).state == .good
  | none => false

/-- What a turn makes of a revert's job: the other party's station, and the target that R47 selects (R103). -/
def turnedJob (s : State) (r : Revert) (j : Job) : Job :=
  let y := if j.turn = some .caller then r.called else r.caller
  let n := (s.line j.line).desc.base.val + y.val
  if h : n < 192 then
    let x := s.station ⟨n, h⟩
    let g := chosenTarget s x.home x.selective
    { j with
      party := y, station := some ⟨n, h⟩, pattern := some x.pattern
      load := some (x.load + (s.line j.line).desc.allowance), home := some x.home, state := g.1, current := g.2
      phase := none, framesRung := j.framesRung + 1, waitTimer := 0
      turn := some (if j.turn = some .caller then .called else .caller) }
  else j

/-- What steps 1 and 2 of an expiry make of a job, `none` where it ends (R56, R59, R60, R61, R98, R103, R123). -/
def jobAtExpiry (s : State) (j : Job) : Option Job :=
  if frameEndsNow s j then
    if j.framesRung + 1 = j.frameLimit then none
    else
      match turnNow s j with
      | some r => some (turnedJob s r j)
      | none =>
        if returnNow s j then
          some { j with
            state := .waiting, current := j.home, phase := none, framesRung := j.framesRung + 1, waitTimer := 0 }
        else some { j with framesRung := j.framesRung + 1 }
  else
    match j.state with
    | .placed => some (if j.phase.any (fun ph => (s.pos.val + 1) % 60 == 5 * ph.val) then { j with state := .ringing } else j)
    | .ringing => some j
    | .waiting | .suspended => if j.waitTimer + 1 = 300 then none else some { j with waitTimer := j.waitTimer + 1 }
    | .reserved =>
      if (s.revert? j.line).any (fun r => r.state == .awaitHangup && r.hangupTimer + 1 == 300) then none else some j

/-- The job leaves a feed in step 1 of the expiry: its last frame ends, it turns, or it returns home (R60 step 3). -/
def leavesFeedNow (s : State) (j : Job) : Bool :=
  frameEndsNow s j && (j.framesRung + 1 == j.frameLimit || (turnNow s j).isSome || returnNow s j)

/-! ### Tables -/

/-- The threshold table of 7.2: level in force, lowest and highest reading, target, direction. -/
def thresholds : List (Level × Nat × Nat × Level × RunDirection) :=
  [(.normal, 0, 419, .critical, .fall), (.normal, 420, 439, .low, .fall), (.normal, 440, 800, .normal, .none),
   (.low, 0, 419, .critical, .fall), (.low, 420, 459, .low, .none), (.low, 460, 800, .normal, .rise),
   (.critical, 0, 434, .critical, .none), (.critical, 435, 459, .low, .rise), (.critical, 460, 800, .normal, .rise)]

/-- The loop supervision tables of R75 and R76: state, run count and sample give state, run count and finding. -/
def loopTable (v : Supervision) (n : Nat) (closed : Bool) : Supervision × Nat × Option FindingKind :=
  match v, closed with
  | .unscanned, _ => (.unscanned, n, none)
  | .onHook, false => (.onHook, n, none)
  | .onHook, true => (.closing, 1, none)
  | .closing, true => if n < 5 then (.closing, n + 1, none) else (.offHook, 0, some .offHook)
  | .closing, false => (.onHook, 0, none)
  | .offHook, true => (.offHook, n, none)
  | .offHook, false => (.opening, 1, none)
  | .opening, false => if n < 69 then (.opening, n + 1, none) else (.onHook, 0, some .onHook)
  | .opening, true => if n ≤ 7 then (.offHook, 0, none) else (.offHook, 0, some (.flash n))

/-- The drive view table of R77: view, drive set, drive sample count give view and drive sample count. -/
def viewTable (v : DriveView) (set : Bool) (n : Nat) : DriveView × Nat :=
  match v, set with
  | .clear, false => (.clear, n)
  | .clear, true => (.burst, 0)
  | .burst, true => (.burst, min (n + 1) 65535)
  | .burst, false => (.guard, 0)
  | .guard, true => (.burst, 0)
  | .guard, false => if n < 9 then (.guard, n + 1) else (.clear, 0)

end Sys2Proof.Machine
end

