-- ==== Sys2Proof/WellFormed.lean ====
section
/-! DEFINITION. Which commands the part can be given. Every byte value of a request is well-formed: the owning
rule clamps or refuses it (R187). -/

namespace Sys2Proof

/-- A BAD_REQUEST is a body that R157 admits and that names no request (R161). -/
def wfBadRequest (kind : Byte) (args : List Byte) : Bool :=
  namesNoRequest kind args && decide (args.length ≤ 54)

/-- A scanner sample reads each of the 32 lines once, in the order the lines are taken (R74, log 8). -/
def wfScannerSample (inputs : List LineInput) : Bool :=
  decide (inputs.length = 32) && decide (inputs.map (·.line)).Nodup

/-- A feed sample reads each of the five feeds once, in the order the feeds are taken (R118, log 8). -/
def wfFeedSample (inputs : List FeedInput) : Bool :=
  decide (inputs.length = 5) && decide (inputs.map (·.feed)).Nodup

/-- A byte of the image (R189). -/
def inImage (a : Nat) : Bool := decide (a < Config.imageSize)

/-- The command is one the outside can give. -/
def Instr.wf : Instr → Bool
  | .badRequest _ _ kind args => wfBadRequest kind args
  | .scannerSample inputs => wfScannerSample inputs
  | .feedSample inputs => wfFeedSample inputs
  | .feedRecovery f => decide (f ≠ .fb)
  | .referenceRestored gap => decide (gap ≤ 250)
  | .load silent => silent.all inImage
  | .saveDone r => r.garbled.all fun c => inImage c.1
  | _ => true

end Sys2Proof
end

