-- ==== Sys2Proof/Certificates/Slice0/Obligations.lean ====
section
/-! DEFINITION. The statements for the provers. Each is said of `exec` and `step`; the bytes, events and tables stand in
the statements as the manual gives them. -/

open Sys2Proof Sys2Proof.Machine

/-! ### The step, the link and the answer -/

/-- A step takes the command at the front of the queue, with the rest left waiting; with none waiting the part idles
(log 21). -/
def Obligations.StepTakesFrontCommand : Prop :=
  (∀ (s : State) (c : Instr) (rest : List Instr),
    step { s with pending := c :: rest } = exec c { s with pending := rest }) ∧
  ∀ s : State, s.pending = [] → step s = .next s

/-- The body of every request decodes to that request, and what a body decodes to has that body (R161, R187). -/
def Obligations.RequestBodiesRoundTrip : Prop :=
  (∀ (c : Instr) (p : Port) (body : List Byte),
    c.wf = true → encodeBody c = some (p, body) → decodeBody p body = some c) ∧
  ∀ (c : Instr) (p : Port) (body : List Byte), decodeBody p body = some c → encodeBody c = some (p, body)

/-- A whole frame, received byte by byte in HUNT, puts its body in the empty receive buffer when its two check bytes
are the check of R158, and is discarded silently otherwise; behind a buffer that holds a frame even a good one is
discarded. The receiver is back in HUNT either way. Every response goes out in a frame that carries the same check
(R157, R158, R160). -/
def Obligations.FrameIsReceivedByItsCheck : Prop :=
  (∀ (s : State) (p : Port) (body : List Byte) (high low : Byte),
     s.phase ≠ .hold → (s.port p).receiver.state = .hunt →
     2 ≤ body.length → body.length ≤ 56 →
     ∃ t, takeAll ((0xA5 :: BitVec.ofNat 8 body.length :: body ++ [high, low]).map
           fun b => .linkByteReceived p b true) s = .next t ∧
       SameButPorts s t ∧ (∀ q, q ≠ p → t.port q = s.port q) ∧ (t.port p).receiver.state = .hunt ∧
       (t.port p).queue = (s.port p).queue ∧ (t.port p).overflow = (s.port p).overflow ∧
       (t.port p).response = (s.port p).response ∧
       (t.port p).buffer =
         match (s.port p).buffer with
         | some f => some f
         | none =>
           if high ++ low = frameCheck (BitVec.ofNat 8 body.length :: body) then some ⟨body, false⟩ else none) ∧
  ∀ (s : State) (p : Port) (body : List Byte), (s.port p).response = some body → body.length ≤ 255 →
    ∃ high low : Byte,
      s.transmitted p = 0xA5 :: BitVec.ofNat 8 body.length :: body ++ [high, low] ∧
      high ++ low = frameCheck (BitVec.ofNat 8 body.length :: body)

/-- What one byte does to a receiver outside HOLD (R157): a low stop bit sends it to HUNT; in HUNT a SYNC begins a frame
and any other byte is discarded; LENGTH takes 2 to 56 and discards the frame for any other value. A byte gap within a frame
discards the partial frame, and nothing happens in HUNT (R159). The last byte of a response empties the receive buffer, and
after Port M's answer to RESET the commanded reset is due (R160, R163).
What the receiver's other fields hold in HUNT is log 25, when the reset takes effect log 20. -/
def Obligations.ReceiverTakesBytesAndGaps : Prop :=
  (∀ (s : State) (p : Port) (b : Byte), s.phase ≠ .hold →
     (exec (.linkByteReceived p b false) s = .next (s.modPort p fun r => { r with receiver := .reset })) ∧
     ((s.port p).receiver.state = .hunt →
       exec (.linkByteReceived p b true) s = .next (s.modPort p fun r =>
         { r with receiver := if b = 0xA5 then { Receiver.reset with state := .length } else .reset })) ∧
     ((s.port p).receiver.state = .length →
       exec (.linkByteReceived p b true) s = .next (s.modPort p fun r =>
         { r with receiver :=
             if 2 ≤ b.toNat ∧ b.toNat ≤ 56 then { Receiver.reset with state := .body, len := b.toNat } else .reset }))) ∧
  (∀ (s : State) (p : Port), s.phase ≠ .hold →
    exec (.byteGapTimeout p) s =
      .next (if (s.port p).receiver.state = .hunt then s else s.modPort p fun r => { r with receiver := .reset })) ∧
  ∀ (s : State) (p : Port) (x : List Byte), (s.port p).response = some x →
    ∃ t, exec (.responseSent p) s = .next t ∧
      t = { s with ports := t.ports, resetStage := t.resetStage } ∧
      t.port p = { s.port p with buffer := none, response := none } ∧ (∀ q, q ≠ p → t.port q = s.port q) ∧
      t.resetStage = if p = .m ∧ s.resetStage = .answered then .due else s.resetStage

/-- In RUN every request is answered exactly once, on its own port, with its TAG, its KIND with the top bit set and a
status; only an OK answer carries a payload, every body fits a frame, and a refused request changes nothing else
(R161, R162). A request whose own frame the link has already placed in the receive buffer, untaken, is done just as one
that finds the buffer empty (R160).
That a request command stands for a whole frame is log 4. -/
def Obligations.EveryRequestIsAnswered : Prop :=
  ∀ (s : State) (c : Instr) (p : Port) (tag kind : Byte) (args : List Byte),
    c.wf = true → encodeBody c = some (p, tag :: kind :: args) → s.phase = .run →
    ((s.port p).buffer = none ∨ (s.port p).buffer = some ⟨tag :: kind :: args, false⟩) →
    ∃ (t : State) (st : Status) (payload : List Byte),
      exec c s = .next t ∧ exec c (s.modPort p fun r => { r with buffer := none }) = .next t ∧
      Sends s t p (tag :: kind :: args) (tag :: (kind ||| 0x80) :: statusCode st :: payload) ∧
      payload.length ≤ 53 ∧ (st ≠ .ok → payload = []) ∧
      (st ≠ .ok → st ≠ .accepted → SameButPorts s t ∧ QueuesSame s t)

/-- In HOLD no request is received, in LOAD every one is answered NOT_READY, its own untaken frame in the buffer included, and
one that finds another frame in the receive buffer is discarded silently (R160, R161, R178, R180). In RUN a frame whose KIND names no request, or whose argument
length is wrong, is answered BAD_REQUEST (R161 step 2). Nothing else changes.
That a request command stands for a whole frame is log 4. -/
def Obligations.RequestsThatAreNotDone : Prop :=
  (∀ (s : State) (c : Instr) (p : Port) (tag kind : Byte) (args : List Byte),
     c.wf = true → encodeBody c = some (p, tag :: kind :: args) →
     (s.phase = .load → ((s.port p).buffer = none ∨ (s.port p).buffer = some ⟨tag :: kind :: args, false⟩) →
       Refuses c s p tag kind args 0x02) ∧
     (s.phase = .hold → exec c s = .next s)) ∧
  (∀ (s : State) (c : Instr) (p : Port) (body : List Byte) (f : Frame),
     c.wf = true → encodeBody c = some (p, body) → (s.port p).buffer = some f → (f.taken = true ∨ f.body ≠ body) →
     exec c s = .next s) ∧
  ∀ (s : State) (p : Port) (tag kind : Byte) (args : List Byte),
    namesNoRequest kind args = true → Ready s p → Refuses (.badRequest p tag kind args) s p tag kind args 0x03

/-- Port control refuses NOT_PERMITTED by the permission table, then NOT_IN_SERVICE to a plane out of service unless the
request is OPEN or a status query; a refused request changes no state (R144, with the table of R145 written out). One form
stands apart: a REVERT on a line that the TAKEOVER moved away, which R97 gives (log 31; `RevertReservesAJob` says it). -/
def Obligations.PortControlRefuses : Prop :=
  ∀ (s : State) (c : Instr) (p : Port) (tag : Byte) (args : List Byte) (k : Kind),
    c.wf = true → encodeBody c = some (p, tag :: k.code :: args) → (∀ x y z, c ≠ .badRequest p x y z) → Ready s p →
    let planesOnly : List Kind :=
      [.openPlane, .closePlane, .claim, .takeover, .revert, .cancelRevert, .promote]
    let deskOnly : List Kind :=
      [.writePattern, .writeFeed, .resetLine, .setPolicy, .save, .reset, .clearFault, .clearFeedFault, .forceSenseLoss,
       .clearCause]
    let outside := (p = .m ∧ k ∈ planesOnly) ∨ (p ≠ .m ∧ k ∈ deskOnly)
    (outside → Refuses c s p tag k.code args 0x05) ∧
    (¬outside → s.inService p = false → k ∉ [.openPlane, .lineStatus, .feedStatus, .portStatus] →
      (k = .revert → ∀ l : Fin 32, args.head? = some (BitVec.ofNat 8 l.val) → ¬MovedAway s p l) →
      Refuses c s p tag k.code args 0x06)

/-! ### Planes and binding -/

/-- OPEN puts the plane in service with a queue that holds ORIGINATION for each outstanding origination, in line order,
and nothing else; the payload counts them and the plane's bound lines; the other ports and every other record are as
they were (R146). An origination is outstanding as `OriginationStands` spells it out (logs 10 and 30). The mark of a plane
that was taken over ends (log 31). -/
def Obligations.OpenGivesAFreshView : Prop :=
  ∀ (s : State) (p : Port) (tag : Byte) (waiting : List (Fin 32)), p ≠ .m → Ready s p →
    waiting.Pairwise (· < ·) → (∀ l, l ∈ waiting ↔ OriginationStands s l) →
    ∃ t, exec (.openPlane p tag) s = .next t ∧
      t = { s with ports := t.ports, serviceA := t.serviceA, serviceB := t.serviceB, takenOver := t.takenOver } ∧
      t.takenOver = s.takenOver.filter (fun x => x.plane != p) ∧
      t.inService p = true ∧ (∀ q, q ≠ p → t.inService q = s.inService q ∧ t.port q = s.port q) ∧
      (t.port p).queue = waiting.map (fun l =>
        { kind := .origination, line := some l, party := none, detail := 0, serial := some (s.line l).serial,
          stamp := s.stamp }) ∧
      (t.port p).overflow = false ∧
      Sends s t p [tag, 0x01]
        [tag, 0x81, 0x00, BitVec.ofNat 8 waiting.length,
         BitVec.ofNat 8 (allLines.filter fun l => (s.line l).owner == some p).length]

/-- CLOSE is refused HAS_BINDINGS while the plane owns a line; otherwise the plane goes out of service with an empty queue
and a clear flag, and nothing else changes (R148). -/
def Obligations.CloseLeavesService : Prop :=
  ∀ (s : State) (p : Port) (tag : Byte), p ≠ .m → Ready s p → s.inService p = true →
    ((∃ l, (s.line l).owner = some p) → Refuses (.closePlane p tag) s p tag 0x02 [] 0x19) ∧
    ((∀ l, (s.line l).owner ≠ some p) →
      ∃ t, exec (.closePlane p tag) s = .next t ∧
        t = { s with ports := t.ports, serviceA := t.serviceA, serviceB := t.serviceB } ∧
        t.inService p = false ∧ (∀ q, q ≠ p → t.inService q = s.inService q ∧ t.port q = s.port q) ∧
        (t.port p).queue = [] ∧ (t.port p).overflow = false ∧ Sends s t p [tag, 0x02] [tag, 0x82, 0x00])

/-- CLAIM's five checks in order, the binding of an unbound line with an origination, and the repeated claim (R150,
R151). A line whose on-hook finding waits is met off-hook (R86, log 30). -/
def Obligations.ClaimChecksAndBinds : Prop :=
  ∀ (s : State) (p : Port) (tag line serial : Byte), p ≠ .m → Ready s p → s.inService p = true →
    (32 ≤ line.toNat → Refuses (.claim p tag line serial) s p tag 0x03 [line, serial] 0x04) ∧
    ∀ l : Fin 32, l.val = line.toNat →
      (serial ≠ (s.line l).serial → Refuses (.claim p tag line serial) s p tag 0x03 [line, serial] 0x0B) ∧
      (serial = (s.line l).serial →
        (¬MetOffHook s l →
          Refuses (.claim p tag line serial) s p tag 0x03 [line, serial] 0x0B) ∧
        (MetOffHook s l →
          (∀ q, (s.line l).owner = some q → q ≠ p →
            Refuses (.claim p tag line serial) s p tag 0x03 [line, serial] 0x0A) ∧
          ((s.line l).owner = none → (s.line l).parked = true ∨ (s.line l).desc.admin ≠ .enabled →
            Refuses (.claim p tag line serial) s p tag 0x03 [line, serial] 0x0B) ∧
          ((s.line l).owner = some p →
            ∃ t, exec (.claim p tag line serial) s = .next t ∧ SameButPorts s t ∧
              Answers s t p [tag, 0x03, line, serial] [tag, 0x83, 0x00, line, serial, portCode p]) ∧
          ((s.line l).owner = none → (s.line l).parked = false → (s.line l).desc.admin = .enabled →
            ∃ t, exec (.claim p tag line serial) s = .next t ∧ t = { s with ports := t.ports, lines := t.lines } ∧
              t.line l = { s.line l with owner := some p } ∧ OtherLinesSame s t l ∧
              Answers s t p [tag, 0x03, line, serial] [tag, 0x83, 0x00, line, serial, portCode p])))

/-- RELEASE's four checks in order; then the owner becomes NONE, and the line is parked if it is off-hook. No event is
posted (R152). A line whose on-hook finding waits is met off-hook (R86, log 30). -/
def Obligations.ReleaseChecksAndParks : Prop :=
  ∀ (s : State) (p : Port) (tag line : Byte), Ready s p → s.inService p = true →
    (32 ≤ line.toNat → Refuses (.release p tag line) s p tag 0x04 [line] 0x04) ∧
    ∀ l : Fin 32, l.val = line.toNat →
      ((s.line l).owner = none → Refuses (.release p tag line) s p tag 0x04 [line] 0x09) ∧
      (∀ q, (s.line l).owner = some q → q ≠ p → Refuses (.release p tag line) s p tag 0x04 [line] 0x0A) ∧
      ((s.line l).owner = some p →
        (s.hasJob l = true ∨ s.hasRevert l = true → Refuses (.release p tag line) s p tag 0x04 [line] 0x0C) ∧
        (s.hasJob l = false → s.hasRevert l = false →
          let off := supervisionMet s l == .offHook || supervisionMet s l == .opening
          ∃ t, exec (.release p tag line) s = .next t ∧ t = { s with ports := t.ports, lines := t.lines } ∧
            t.line l = { s.line l with owner := none, parked := off } ∧ OtherLinesSame s t l ∧
            Answers s t p [tag, 0x04, line] [tag, 0x84, 0x00, if off then 1 else 0]))

/-- TAKEOVER moves every line of the other plane, with its job and revert, to the requester, empties the other plane's
queue and takes it out of service; a moved line keeps everything else (R153). Which plane was taken over, with which lines,
is kept for the row of R97 (log 31). -/
def Obligations.TakeoverMovesEveryLine : Prop :=
  ∀ (s : State) (p q : Port) (tag : Byte), (p = .a ∧ q = .b ∨ p = .b ∧ q = .a) → Ready s p → s.inService p = true →
    ∃ t, exec (.takeover p tag) s = .next t ∧
      t = { s with ports := t.ports, lines := t.lines, jobs := t.jobs, reverts := t.reverts, serviceA := t.serviceA,
                   serviceB := t.serviceB, takenOver := t.takenOver } ∧
      t.takenOver =
        (if s.inService q = true then some ⟨q, allLines.filter fun l => (s.line l).owner == some q⟩ else s.takenOver) ∧
      (∀ l, t.line l = if (s.line l).owner = some q then { s.line l with owner := some p } else s.line l) ∧
      t.jobs = s.jobs.map (fun j => if (s.line j.line).owner = some q then { j with owner := p } else j) ∧
      t.reverts = s.reverts.map (fun r => if (s.line r.line).owner = some q then { r with owner := p } else r) ∧
      t.inService q = false ∧ t.inService p = true ∧
      (t.port q).queue = [] ∧ (t.port q).overflow = false ∧
      (∀ x, x ≠ q → (t.port x).queue = (s.port x).queue ∧ (t.port x).overflow = (s.port x).overflow) ∧
      Sends s t p [tag, 0x05]
        [tag, 0x85, 0x00, BitVec.ofNat 8 (allLines.filter fun l => (s.line l).owner == some q).length]

/-! ### Ringing -/

/-- An accepted RING creates the job of R52 at the tail of the arrival list, binds the line to the requester, selects the
target by R47, runs one placement pass over the pool with that job, and answers with the job as the pass left it; the checks
of R51 refuse in their order (R54).
A line whose on-hook finding waits is met off-hook (R86, log 30). -/
def Obligations.RingCreatesAJob : Prop :=
  (∀ (s : State) (p : Port) (tag line party cls limit progress : Byte) (l : Fin 32) (y : Fin 8) (i : Fin 192),
    Ready s p → s.inService p = true → l.val = line.toNat → y.val = party.toNat → progress.toNat ≤ 1 →
    (s.line l).desc.admin = .enabled → y.val < (s.line l).desc.count → i.val = (s.line l).desc.base.val + y.val →
    (s.station i).enabled = true → ((s.line l).owner = none ∨ (s.line l).owner = some p) →
    s.hasJob l = false → s.hasRevert l = false → supervisionMet s l = .onHook → s.jobs.length < 24 →
    ∃ (t : State) (j : Job), exec (.ring p tag line party cls limit progress) s = .next t ∧
      t = { s with ports := t.ports, lines := t.lines, jobs := t.jobs } ∧
      t.line l = { s.line l with owner := some p } ∧ OtherLinesSame s t l ∧
      (let g := chosenTarget s (s.station i).home (s.station i).selective
       let created : Job :=
         { line := l, party := y, station := some i, owner := p, cls := j.cls, pattern := some (s.station i).pattern,
           load := some ((s.station i).load + (s.line l).desc.allowance), home := some (s.station i).home,
           current := g.2, state := g.1, phase := none, framesRung := 0, frameLimit := j.frameLimit,
           progress := progress == 1, waitTimer := 0, shedCount := 0, turn := none }
       t.jobs = ({ s with jobs := s.jobs ++ [created] } : State).pass.jobs) ∧
      t.jobs.map (·.line) = s.jobs.map (·.line) ++ [l] ∧ t.job? l = some j ∧
      j.party = y ∧ j.station = some i ∧ j.owner = p ∧
      j.cls.val = (if p = .m then 0 else if cls.toNat = 0 then 1 else min cls.toNat 3) ∧
      j.pattern = some (s.station i).pattern ∧ j.load = some ((s.station i).load + (s.line l).desc.allowance) ∧
      j.home = some (s.station i).home ∧
      j.frameLimit = (if limit = 0 then (s.line l).desc.frameLimit else min limit.toNat 60) ∧
      j.progress = (progress == 1) ∧ j.framesRung = 0 ∧ j.waitTimer = 0 ∧ j.shedCount = 0 ∧ j.turn = none ∧
      (if (s.feed (s.station i).home).state = .good then
        j.current = some (s.station i).home ∧ (j.state = .waiting ∨ j.state = .placed)
       else if (s.station i).selective = false ∧ (s.feed (s.station i).home).fallback = true ∧
          (s.feed .fb).state = .good then
        j.current = some .fb ∧ (j.state = .waiting ∨ j.state = .placed)
       else j.current = none ∧ j.state = .suspended) ∧
      (j.phase.isSome = true ↔ j.state = .placed) ∧
      Answers s t p [tag, 0x06, line, party, cls, limit, progress]
        ([tag, 0x86, 0x00, jobStateCode j.state] ++
          (match j.phase with
            | some ph => [BitVec.ofNat 8 ph.val,
                BitVec.ofNat 8 (if 5 * ph.val > s.pos.val then 5 * ph.val - s.pos.val else 5 * ph.val + 60 - s.pos.val)]
            | none => [0xFF, 0xFF]) ++
          [(match j.current with | some f => feedCode f | none => 0xFF),
           BitVec.ofNat 8 ((s.station i).load + (s.line l).desc.allowance), BitVec.ofNat 8 j.cls.val,
           BitVec.ofNat 8 j.frameLimit])) ∧
  ∀ (s : State) (p : Port) (tag line party cls limit progress : Byte), Ready s p → s.inService p = true →
    let refused :=
      Refuses (.ring p tag line party cls limit progress) s p tag 0x06 [line, party, cls, limit, progress]
    (32 ≤ line.toNat ∨ 8 ≤ party.toNat ∨ 2 ≤ progress.toNat → refused 0x04) ∧
    ∀ (l : Fin 32) (y : Fin 8), l.val = line.toNat → y.val = party.toNat → progress.toNat ≤ 1 →
      let x := s.line l
      ChecksInOrder refused
        (∀ i : Fin 192, i.val = x.desc.base.val + y.val →
          ChecksInOrder refused True
            [((s.station i).enabled = false, 0x0F), (∃ q, x.owner = some q ∧ q ≠ p, 0x0A),
             (s.hasJob l = true ∨ s.hasRevert l = true, 0x0C), (supervisionMet s l ≠ .onHook, 0x0D),
             (24 ≤ s.jobs.length, 0x10)])
        [(x.desc.admin = .disabled, 0x07), (x.desc.admin = .faulted, 0x08), (x.desc.count ≤ y.val, 0x04)]

/-- A placement pass is one walk of the WAITING jobs: under CLASS by class descending and then in arrival order, under
ARRIVAL in arrival order alone. It gives each the first phase that fits, counted from the next boundary; a job is placed
only where its load stays within the effective capacity at every position it rings, and passed over where none fits or
the class gate holds it (R36, R37, R38, R39, R49). -/
def Obligations.PlacementTakesTheFirstFit : Prop :=
  (∀ s : State,
    let waiting := s.jobs.filter fun j => j.state == .waiting
    let walk :=
      match s.policy with
      | .byArrival => waiting
      | .byClass => ([3, 2, 1, 0] : List (Fin 4)).flatMap fun c => waiting.filter fun j => j.cls == c
    s.pass = (walk.map (·.line)).foldl State.tryPlace s) ∧
  (∀ (s : State) (l : Fin 32) (j : Job), s.job? l = some j →
    (j.state ≠ .waiting ∨ (s.battery.level = .critical ∧ j.cls.val ≤ 1)) → s.tryPlace l = s) ∧
  ∀ (s : State) (l : Fin 32) (j : Job) (f : Feed) (k : Fin 16) (n : Nat),
    s.job? l = some j → j.state = .waiting → j.current = some f → j.pattern = some k → j.load = some n →
    (s.battery.level = .critical → 2 ≤ j.cls.val) →
    let candidate (i : Nat) : Fin 12 := Fin.ofNat 12 (s.pos.val / 5 + 1 + i)
    let fitsAt (i : Nat) : Prop :=
      ∀ u ∈ onSet (s.pattern k), s.profile f ((u + 5 * (candidate i).val) % 60) + n ≤
        (s.feed f).capacity * (match s.battery.level with | .normal => 100 | .low => 75 | .critical => 40) / 100
    (∀ i, i < 12 → fitsAt i → (∀ m, m < i → ¬fitsAt m) →
      s.tryPlace l = s.modJob l fun j => { j with state := .placed, phase := some (candidate i) }) ∧
    ((∀ i, i < 12 → ¬fitsAt i) → s.tryPlace l = s)

/-- CANCEL_RING ends an ordinary job of the requester in any state, CANCEL_REVERT a revert of the requester with its job:
the drive is NONE, both are gone, one pass runs where the job held a reservation and none otherwise, the binding is released
only on an on-hook line outside burst and guard, no event is posted, and the answer gives what was ended; the checks of each
refuse in their order (R54, R68, R71, R109, R111). A cancel
in AWAIT_HANGUP whose on-hook finding waits keeps the binding (R112, log 30).
Whether the binding was released is told by a byte whose two codes the manual leaves open (log 12). -/
def Obligations.CancelsEndTheWork : Prop :=
  (∀ (s : State) (p : Port) (tag line : Byte) (l : Fin 32) (j : Job),
     Ready s p → s.inService p = true → l.val = line.toNat → s.job? l = some j → j.turn = none → j.owner = p →
     let released := supervisionMet s l = .onHook ∧ (s.line l).drive = none ∧ (s.line l).scan.view = .clear
     ∃ t, exec (.cancelRing p tag line) s = .next t ∧
       t = { s with ports := t.ports, lines := t.lines, jobs := t.jobs, reverts := t.reverts } ∧
       (released → t.line l = { s.line l with drive := none, owner := none, parked := false }) ∧
       (¬released → t.line l = { s.line l with drive := none }) ∧ OtherLinesSame s t l ∧
       PoolAfterEnding s t l ∧
       t.reverts = s.reverts.filter (fun r => r.line != l) ∧
       ∃ code : Byte,
         (released → code = Config.bindingCode false) ∧ (¬released → code = Config.bindingCode true) ∧
         Answers s t p [tag, 0x07, line]
           [tag, 0x87, 0x00, jobStateCode j.state, BitVec.ofNat 8 j.framesRung, BitVec.ofNat 8 j.shedCount, code]) ∧
  (∀ (s : State) (p : Port) (tag line : Byte) (l : Fin 32) (r : Revert) (j : Job),
    p ≠ .m → Ready s p → s.inService p = true → l.val = line.toNat → s.revert? l = some r → s.job? l = some j →
    r.owner = p →
    let released := supervisionMet s l = .onHook ∧ (s.line l).drive = none ∧ (s.line l).scan.view = .clear
    ∃ t, exec (.cancelRevert p tag line) s = .next t ∧
      t = { s with ports := t.ports, lines := t.lines, jobs := t.jobs, reverts := t.reverts } ∧
      (released → t.line l = { s.line l with drive := none, owner := none, parked := false }) ∧
      (¬released → t.line l = { s.line l with drive := none }) ∧ OtherLinesSame s t l ∧
      PoolAfterEnding s t l ∧
      t.reverts = s.reverts.filter (fun x => x.line != l) ∧
      ∃ code : Byte,
        (released → code = Config.bindingCode false) ∧ (¬released → code = Config.bindingCode true) ∧
        Answers s t p [tag, 0x0A, line]
          [tag, 0x8A, 0x00, revertStateCode r.state, jobStateCode j.state, BitVec.ofNat 8 j.framesRung, code]) ∧
  ∀ (s : State) (p : Port) (tag line : Byte), Ready s p → s.inService p = true →
    (32 ≤ line.toNat → Refuses (.cancelRing p tag line) s p tag 0x07 [line] 0x04) ∧
    (32 ≤ line.toNat → p ≠ .m → Refuses (.cancelRevert p tag line) s p tag 0x0A [line] 0x04) ∧
    ∀ l : Fin 32, l.val = line.toNat →
      ChecksInOrder (Refuses (.cancelRing p tag line) s p tag 0x07 [line]) True
        [(∀ j, s.job? l = some j → j.turn ≠ none, 0x12), (∃ j, s.job? l = some j ∧ j.owner ≠ p, 0x0A)] ∧
      (p ≠ .m →
        ChecksInOrder (Refuses (.cancelRevert p tag line) s p tag 0x0A [line]) True
          [(s.revert? l = none, 0x13), (∃ r, s.revert? l = some r ∧ r.owner ≠ p, 0x0A)])

/-- PROMOTE of a WAITING, PLACED or SUSPENDED job raises its class to the larger of the held and the clamped class and
runs one pass; a RINGING or RESERVED job is left as it is. Either way the answer gives the job. Its three checks refuse in
their order (R67). -/
def Obligations.PromoteRaisesTheClass : Prop :=
  (∀ (s : State) (p : Port) (tag line cls : Byte) (l : Fin 32) (j : Job),
    p ≠ .m → Ready s p → s.inService p = true → PoolBounded s → l.val = line.toNat → s.job? l = some j →
    j.owner = p →
    let asked := if cls.toNat = 0 then 1 else min cls.toNat 3
    let raises := j.state = .waiting ∨ j.state = .placed ∨ j.state = .suspended
    ∃ (t : State) (j' : Job), exec (.promote p tag line cls) s = .next t ∧
      t = { s with ports := t.ports, jobs := t.jobs } ∧ t.jobs.map (·.line) = s.jobs.map (·.line) ∧
      t.job? l = some j' ∧
      (raises → j'.cls.val = max j.cls.val asked ∧
        j' = { j with cls := j'.cls, state := j'.state, phase := j'.phase } ∧
        (j.state ≠ .waiting → j'.state = j.state ∧ j'.phase = j.phase) ∧
        t.jobs = ((s.modJob l fun j => { j with cls := j'.cls }).pass).jobs) ∧
      (¬raises → SameButPorts s t) ∧
      Answers s t p [tag, 0x08, line, cls]
        [tag, 0x88, 0x00, jobStateCode j'.state, BitVec.ofNat 8 j'.cls.val]) ∧
  ∀ (s : State) (p : Port) (tag line cls : Byte), p ≠ .m → Ready s p → s.inService p = true →
    (32 ≤ line.toNat → Refuses (.promote p tag line cls) s p tag 0x08 [line, cls] 0x04) ∧
    ∀ l : Fin 32, l.val = line.toNat →
      ChecksInOrder (Refuses (.promote p tag line cls) s p tag 0x08 [line, cls]) True
        [(s.job? l = none, 0x12), (∃ j, s.job? l = some j ∧ j.owner ≠ p, 0x0A)]

/-- SET_POLICY: a value naming no policy is refused, then SAVE_BUSY; else the policy is stored, one pass runs under it and
the answer gives it (R49). -/
def Obligations.SetPolicyStoresThePolicy : Prop :=
  ∀ (s : State) (tag policy : Byte), Ready s .m →
    (2 ≤ policy.toNat → Refuses (.setPolicy .m tag policy) s .m tag 0x0B [policy] 0x04) ∧
    (policy.toNat ≤ 1 → s.save.isSome = true → Refuses (.setPolicy .m tag policy) s .m tag 0x0B [policy] 0x18) ∧
    (policy.toNat ≤ 1 → s.save = none →
      ∃ t, exec (.setPolicy .m tag policy) s = .next t ∧
        t = { s with ports := t.ports, jobs := t.jobs, policy := if policy = 0 then .byClass else .byArrival } ∧
        t.jobs = ({ s with policy := if policy = 0 then .byClass else .byArrival } : State).pass.jobs ∧
        t.jobs.map (·.line) = s.jobs.map (·.line) ∧
        (∀ j ∈ s.jobs, j.state ≠ .waiting → (∀ k ∈ s.jobs, k.line = j.line → k = j) → j ∈ t.jobs) ∧
        Answers s t .m [tag, 0x0B, policy] [tag, 0x8B, 0x00, policy])

/-- An accepted REVERT fills a record in AWAIT_HANGUP and a RESERVED job of class 2 at the tail of the arrival list, runs
no pass and changes nothing else; the checks of R95 refuse in their order (R95, R96).
A line whose on-hook finding waits is met off-hook (R97, log 30). A REVERT from the plane that a TAKEOVER has put out of
service, on a line it moved, is refused HELD_BY_OTHER by R97's row where the first four checks pass, and else NOT_IN_SERVICE
(log 31). -/
def Obligations.RevertReservesAJob : Prop :=
  (∀ (s : State) (p : Port) (tag line caller called ringCaller limit : Byte) (l : Fin 32) (x y : Fin 8) (i k : Fin 192),
    p ≠ .m → Ready s p → s.inService p = true → l.val = line.toNat → x.val = caller.toNat → y.val = called.toNat →
    ringCaller.toNat ≤ 1 → (s.line l).desc.admin = .enabled →
    x.val < (s.line l).desc.count → y.val < (s.line l).desc.count →
    i.val = (s.line l).desc.base.val + x.val → k.val = (s.line l).desc.base.val + y.val →
    (s.line l).owner = some p → s.hasJob l = false → s.hasRevert l = false →
    MetOffHook s l →
    (s.station i).enabled = true → (s.station k).enabled = true → s.reverts.length < 8 → s.jobs.length < 24 →
    let n := if limit = 0 then (s.line l).desc.frameLimit else min limit.toNat 60
    let record : Revert :=
      { line := l, caller := x, called := y, ringCaller := ringCaller == 1, owner := p, state := .awaitHangup,
        hangupTimer := 0, frameLimit := n }
    let reserved : Job :=
      { line := l, party := y, station := none, owner := p, cls := 2, pattern := none, load := none, home := none,
        current := none, state := .reserved, phase := none, framesRung := 0, frameLimit := n, progress := false,
        waitTimer := 0, shedCount := 0, turn := some .called }
    ∃ t, exec (.revert p tag line caller called ringCaller limit) s = .next t ∧
      t = { s with ports := t.ports, reverts := s.reverts ++ [record], jobs := s.jobs ++ [reserved] } ∧
      Answers s t p [tag, 0x09, line, caller, called, ringCaller, limit]
        [tag, 0x89, 0x00, BitVec.ofNat 8 n, if ringCaller = 1 ∧ x ≠ y then 1 else 0]) ∧
  (∀ (s : State) (p : Port) (tag line caller called ringCaller limit : Byte) (l : Fin 32), p ≠ .m → Ready s p →
    s.inService p = false → l.val = line.toNat → MovedAway s p l →
    let d := (s.line l).desc
    let passes := caller.toNat < 8 ∧ called.toNat < 8 ∧ ringCaller.toNat < 2 ∧ d.admin = .enabled ∧
      caller.toNat < d.count ∧ called.toNat < d.count ∧ d.base.val + caller.toNat < 192 ∧
      d.base.val + called.toNat < 192
    Refuses (.revert p tag line caller called ringCaller limit) s p tag 0x09 [line, caller, called, ringCaller, limit]
      (if passes then 0x0A else 0x06)) ∧
  ∀ (s : State) (p : Port) (tag line caller called ringCaller limit : Byte), p ≠ .m → Ready s p →
    s.inService p = true →
    let refused :=
      Refuses (.revert p tag line caller called ringCaller limit) s p tag 0x09
        [line, caller, called, ringCaller, limit]
    (32 ≤ line.toNat ∨ 8 ≤ caller.toNat ∨ 8 ≤ called.toNat ∨ 2 ≤ ringCaller.toNat → refused 0x04) ∧
    ∀ (l : Fin 32) (x y : Fin 8), l.val = line.toNat → x.val = caller.toNat → y.val = called.toNat →
      ringCaller.toNat ≤ 1 →
      let d := (s.line l).desc
      ChecksInOrder refused
        (∀ i k : Fin 192, i.val = d.base.val + x.val → k.val = d.base.val + y.val →
          ChecksInOrder refused True
            [(∃ q, (s.line l).owner = some q ∧ q ≠ p, 0x0A), ((s.line l).owner = none, 0x09),
             (s.hasJob l = true ∨ s.hasRevert l = true, 0x0C),
             (supervisionMet s l = .onHook ∨ supervisionMet s l = .closing, 0x0E),
             ((s.station i).enabled = false ∨ (s.station k).enabled = false, 0x0F), (8 ≤ s.reverts.length, 0x11),
             (24 ≤ s.jobs.length, 0x10)])
        [(d.admin = .disabled, 0x07), (d.admin = .faulted, 0x08), (d.count ≤ x.val ∨ d.count ≤ y.val, 0x04)]

/-! ### Events, status and reads -/

/-- FETCH removes up to four of the oldest events, reads and clears the flag, answers with both, and changes nothing
else (R168); the attention line stays asserted exactly where events are left (R169). An event record is nine bytes:
kind, presence bits, line, party, detail, serial, stamp, each absent field 0,
two-byte values high byte first (R188). -/
def Obligations.FetchTakesTheOldestFour : Prop :=
  (∀ (s : State) (p : Port) (tag : Byte), Ready s p → s.inService p = true →
     let r := s.port p
     ∃ t, exec (.fetch p tag) s = .next t ∧ SameButPorts s t ∧
       (t.port p).queue = r.queue.drop 4 ∧ (t.port p).overflow = false ∧
       (t.attention p = true ↔ 4 < r.queue.length) ∧
       (∀ q, q ≠ p → t.port q = s.port q) ∧
       Sends s t p [tag, 0x0C]
         (tag :: 0x8C :: 0x00 :: BitVec.ofNat 8 (min 4 r.queue.length) :: (if r.overflow then 1 else 0) ::
           (r.queue.take 4).flatMap eventBytes)) ∧
  ∀ e : Event,
    (eventBytes e).length = 9 ∧
    (∀ l y, e.line = some l → e.party = some y → e.serial = none →
      eventBytes e = [eventCode e.kind, 3, BitVec.ofNat 8 l.val, BitVec.ofNat 8 y.val, e.detail.extractLsb' 8 8,
        e.detail.extractLsb' 0 8, 0, e.stamp.extractLsb' 8 8, e.stamp.extractLsb' 0 8]) ∧
    (∀ l, e.line = some l → e.party = none → e.serial = none →
      eventBytes e = [eventCode e.kind, 1, BitVec.ofNat 8 l.val, 0, e.detail.extractLsb' 8 8, e.detail.extractLsb' 0 8, 0,
        e.stamp.extractLsb' 8 8, e.stamp.extractLsb' 0 8]) ∧
    (∀ l n, e.line = some l → e.party = none → e.serial = some n →
      eventBytes e = [eventCode e.kind, 5, BitVec.ofNat 8 l.val, 0, e.detail.extractLsb' 8 8,
        e.detail.extractLsb' 0 8, n, e.stamp.extractLsb' 8 8, e.stamp.extractLsb' 0 8]) ∧
    (e.line = none → e.party = none → e.serial = none →
      eventBytes e = [eventCode e.kind, 0, 0, 0, e.detail.extractLsb' 8 8, e.detail.extractLsb' 0 8, 0,
        e.stamp.extractLsb' 8 8, e.stamp.extractLsb' 0 8])

/-- LINE_STATUS, FEED_STATUS and PORT_STATUS answer a port in or out of service with the bytes of R188 and change nothing;
a line above 31 and a byte naming no feed are refused BAD_ARGUMENT (R18, R130, R164). The profile peak that FEED_STATUS
gives is an entry of the profile, and no entry is above it (R35). The job summary is 19 bytes and the revert summary 9, all
0 where there is none, laid out field by field with 0xFF for an absent value (R72, R115, R188). The last-burst record is a
byte 1, then line, party and stamp (R125, R188).
What an absent last-burst record reads as is log 18. -/
def Obligations.StatusQueriesReport : Prop :=
  (∀ (s : State) (p : Port) (tag b : Byte), Ready s p →
     (32 ≤ b.toNat → Refuses (.lineStatus p tag b) s p tag 0x0D [b] 0x04) ∧
     (5 ≤ b.toNat → Refuses (.feedStatus p tag b) s p tag 0x0E [b] 0x04) ∧
     (∀ l : Fin 32, l.val = b.toNat →
       ∃ t, exec (.lineStatus p tag b) s = .next t ∧ SameButPorts s t ∧
         Answers s t p [tag, 0x0D, b]
           ([tag, 0x8D, 0x00] ++ lineBytes (s.line l).desc ++
             [supervisionCode (s.line l).supervision, if (s.line l).parked then 1 else 0, ownerCode (s.line l).owner,
              (s.line l).serial,
              match (s.line l).drive with | none => 0xFF | some d => feedCode d.feed <<< 4 ||| sideCode d.side] ++
             jobSummary (s.job? l) (s.jobs.findIdx fun j => j.line == l) ++ revertSummary (s.revert? l))) ∧
     (∀ f : Feed, feedCode f = b →
       let x := s.feed f
       ∃ t, exec (.feedStatus p tag b) s = .next t ∧ SameButPorts s t ∧
         Answers s t p [tag, 0x0E, b]
           ([tag, 0x8E, 0x00, b, feedStateCode x.state, if x.latch then 1 else 0, if x.forcedLoss then 1 else 0] ++
             wordBytes (s.peak f) ++ wordBytes x.capacity ++
             wordBytes (x.capacity * (match s.battery.level with | .normal => 100 | .low => 75 | .critical => 40) / 100) ++
             burstMarkBytes x.lastBurst ++ [if x.frozen then 1 else 0])) ∧
     ∃ t, exec (.portStatus p tag) s = .next t ∧ SameButPorts s t ∧
       Answers s t p [tag, 0x0F]
         [tag, 0x8F, 0x00, serviceCode s.serviceA, serviceCode s.serviceB, levelCode s.battery.level,
          referenceCode s.reference.state, if (s.port p).overflow then 1 else 0,
          BitVec.ofNat 8 (s.port p).queue.length, causeByte s.causes, sourceCode s.source]) ∧
  (∀ (s : State) (f : Feed),
    (∀ t : Fin 60, s.profile f t.val ≤ s.peak f) ∧ ∃ t : Fin 60, s.peak f = s.profile f t.val) ∧
  (∀ b : BurstMark, burstMarkBytes (some b) =
    [1, BitVec.ofNat 8 b.line.val, BitVec.ofNat 8 b.party.val, b.stamp.extractLsb' 8 8, b.stamp.extractLsb' 0 8]) ∧
  burstMarkBytes none = [0, 0xFF, 0xFF, 0xFF, 0xFF] ∧
  (∀ position : Nat, jobSummary none position = List.replicate 19 0) ∧ revertSummary none = List.replicate 9 0 ∧
  (∀ (j : Job) (position : Nat),
    jobSummary (some j) position =
      [1, jobStateCode j.state, portCode j.owner, BitVec.ofNat 8 j.cls.val, BitVec.ofNat 8 j.party.val,
       (match j.station with | some i => BitVec.ofNat 8 i.val | none => 0xFF),
       (match j.pattern with | some k => BitVec.ofNat 8 k.val | none => 0xFF),
       (match j.load with | some n => BitVec.ofNat 8 n | none => 0xFF),
       (match j.home with | some f => feedCode f | none => 0xFF),
       (match j.current with | some f => feedCode f | none => 0xFF),
       (match j.phase with | some ph => BitVec.ofNat 8 ph.val | none => 0xFF),
       BitVec.ofNat 8 j.framesRung, BitVec.ofNat 8 j.frameLimit, (if j.progress then 1 else 0),
       BitVec.ofNat 8 (j.waitTimer / 256), BitVec.ofNat 8 j.waitTimer, BitVec.ofNat 8 j.shedCount,
       BitVec.ofNat 8 position, (match j.turn with | some .called => 0 | some .caller => 1 | none => 0xFF)]) ∧
  ∀ r : Revert,
    revertSummary (some r) =
      [1, BitVec.ofNat 8 r.caller.val, BitVec.ofNat 8 r.called.val, (if r.ringCaller then 1 else 0), portCode r.owner,
       revertStateCode r.state, BitVec.ofNat 8 (r.hangupTimer / 256), BitVec.ofNat 8 r.hangupTimer,
       BitVec.ofNat 8 r.frameLimit]

/-- The five reads return the record in its image layout, whether or not a SAVE is in flight, and change nothing; an
argument out of range, and a party without a station, are refused BAD_ARGUMENT (R4, R17, R27, R129, R174). -/
def Obligations.ReadsReturnTheRecord : Prop :=
  ∀ (s : State) (p : Port) (tag b y : Byte), Ready s p → s.inService p = true →
    (32 ≤ b.toNat → Refuses (.readLine p tag b) s p tag 0x10 [b] 0x04 ∧
      Refuses (.readStation p tag b y) s p tag 0x11 [b, y] 0x04) ∧
    (16 ≤ b.toNat → Refuses (.readPattern p tag b) s p tag 0x12 [b] 0x04) ∧
    (5 ≤ b.toNat → Refuses (.readFeed p tag b) s p tag 0x13 [b] 0x04) ∧
    (∀ l : Fin 32, l.val = b.toNat →
      let d := (s.line l).desc
      (∃ t, exec (.readLine p tag b) s = .next t ∧ SameButPorts s t ∧
        Answers s t p [tag, 0x10, b]
          [tag, 0x90, 0x00, adminCode d.admin, BitVec.ofNat 8 d.base.val, BitVec.ofNat 8 d.count,
           BitVec.ofNat 8 d.allowance, BitVec.ofNat 8 d.frameLimit, if d.guarded then 1 else 0]) ∧
      (8 ≤ y.toNat ∨ d.count ≤ y.toNat → Refuses (.readStation p tag b y) s p tag 0x11 [b, y] 0x04) ∧
      (∀ i : Fin 192, y.toNat < 8 → y.toNat < d.count → i.val = d.base.val + y.toNat →
        ∃ t, exec (.readStation p tag b y) s = .next t ∧ SameButPorts s t ∧
          Answers s t p [tag, 0x11, b, y] ([tag, 0x91, 0x00, BitVec.ofNat 8 i.val] ++ stationBytes (s.station i)))) ∧
    (∀ k : Fin 16, k.val = b.toNat →
      ∃ t, exec (.readPattern p tag b) s = .next t ∧ SameButPorts s t ∧
        Answers s t p [tag, 0x12, b] ([tag, 0x92, 0x00] ++ patternBytes (s.pattern k))) ∧
    (∀ f : Feed, feedCode f = b →
      ∃ t, exec (.readFeed p tag b) s = .next t ∧ SameButPorts s t ∧
        Answers s t p [tag, 0x13, b]
          ([tag, 0x93, 0x00, BitVec.ofNat 8 (s.feed f).freq] ++ wordBytes (s.feed f).capacity ++
            [if f = .fb then 0 else if (s.feed f).fallback then 1 else 0])) ∧
    ∃ t, exec (.readFault p tag) s = .next t ∧ SameButPorts s t ∧
      Answers s t p [tag, 0x14]
        ([tag, 0x94, 0x00] ++
          (match s.faultRecord with
            | none => [0, 0, 0, 0, 0, 0]
            | some x => [1, faultCode x.kind, optFeed x.feed, optByte x.line, x.stamp.extractLsb' 8 8,
                x.stamp.extractLsb' 0 8]) ++ [missedByte s.missed])

/-! ### Writes -/

/-- An accepted WRITE_LINE replaces the descriptor, the frame limit saturated at 60, and acts on the admin state: an
enabling write restarts supervision, a disabling one makes the line UNSCANNED and abandons an outstanding origination, any
other leaves supervision and parked. Owner, serial and drive never change. The checks of R11 refuse in their order (R11,
R12). That an enabling or disabling write drops the line's waiting findings is log 9; an origination is outstanding as
`OriginationStands` spells it out (logs 10 and 30). -/
def Obligations.WriteLineReplacesTheDescriptor : Prop :=
  (∀ (s : State) (p : Port) (tag line admin base count allowance limit guarded : Byte) (l : Fin 32) (d : Descriptor),
    Ready s p → s.inService p = true → l.val = line.toNat →
    ((admin = 0 ∧ d.admin = .disabled) ∨ (admin = 1 ∧ d.admin = .enabled)) → d.base.val = base.toNat →
    d.count = count.toNat → count.toNat ≤ 8 → d.allowance = allowance.toNat → allowance.toNat ≤ 30 →
    limit.toNat ≠ 0 → d.frameLimit = min limit.toNat 60 → guarded.toNat ≤ 1 → d.guarded = (guarded == 1) →
    (p = .m ∨ ((s.line l).desc.guarded = false ∧ d.guarded = false ∧ (s.line l).desc.admin ≠ .faulted)) →
    s.save = none → (s.line l).owner = none → s.hasJob l = false → s.hasRevert l = false →
    d.base.val + d.count ≤ 192 → (d.admin = .enabled → d.count ≠ 0) →
    (∀ k, k ≠ l → rangesOverlap d (s.line k).desc = false) →
    let old := (s.line l).desc.admin
    let disabling := old ≠ .disabled ∧ d.admin = .disabled
    let enabling := old ≠ .enabled ∧ d.admin = .enabled
    let cleared : Scan := { runCount := 0, view := .clear, samples := 0, tripRun := 0, mismatchRun := 0 }
    ∃ t, exec (.writeLine p tag line admin base count allowance limit guarded) s = .next t ∧
      t = { s with ports := t.ports, lines := t.lines, findings := t.findings } ∧ OtherLinesSame s t l ∧
      t.line l =
        (if enabling then { s.line l with desc := d, supervision := .onHook, parked := false, scan := cleared }
         else if disabling then
          { s.line l with desc := d, supervision := .unscanned, parked := false, scan := cleared }
         else { s.line l with desc := d }) ∧
      t.findings =
        (if enabling ∨ disabling then s.findings.filter (fun x => x.line != l) else s.findings) ∧
      Sends s t p [tag, 0x15, line, admin, base, count, allowance, limit, guarded]
        [tag, 0x95, 0x00, admin, base, count, allowance, BitVec.ofNat 8 d.frameLimit, guarded] ∧
      (let e : Event :=
        { kind := .originationAbandoned, line := some l, party := none, detail := 0, serial := some (s.line l).serial,
          stamp := s.stamp }
       let abandons := old = .enabled ∧ d.admin = .disabled ∧ OriginationStands s l
       ∀ q,
         (abandons → isPlane q = true → s.inService q = true →
           (t.port q).queue = (received (s.port q) e).queue ∧
           (t.port q).overflow = (received (s.port q) e).overflow) ∧
         (¬abandons ∨ isPlane q = false ∨ s.inService q = false →
           (t.port q).queue = (s.port q).queue ∧ (t.port q).overflow = (s.port q).overflow))) ∧
  ∀ (s : State) (p : Port) (tag line admin base count allowance limit guarded : Byte), Ready s p →
    s.inService p = true →
    let refused :=
      Refuses (.writeLine p tag line admin base count allowance limit guarded) s p tag 0x15
        [line, admin, base, count, allowance, limit, guarded]
    (32 ≤ line.toNat ∨ 2 ≤ admin.toNat ∨ 192 ≤ base.toNat ∨ 8 < count.toNat ∨ 30 < allowance.toNat ∨ limit = 0 ∨
      2 ≤ guarded.toNat → refused 0x04) ∧
    ∀ l : Fin 32, l.val = line.toNat → admin.toNat ≤ 1 → base.toNat < 192 → count.toNat ≤ 8 →
      allowance.toNat ≤ 30 → limit ≠ 0 → guarded.toNat ≤ 1 →
      let x := s.line l
      ChecksInOrder refused True
        [(p ≠ .m ∧ (x.desc.guarded = true ∨ guarded = 1), 0x05), (s.save ≠ none, 0x18),
         (p ≠ .m ∧ x.desc.admin = .faulted, 0x08),
         (x.owner ≠ none ∨ s.hasJob l = true ∨ s.hasRevert l = true, 0x14),
         (192 < base.toNat + count.toNat ∨ (admin = 1 ∧ count = 0), 0x15),
         (∃ k, k ≠ l ∧ 0 < count.toNat ∧ 0 < (s.line k).desc.count ∧
           base.toNat < (s.line k).desc.base.val + (s.line k).desc.count ∧
           (s.line k).desc.base.val < base.toNat + count.toNat, 0x16)]

/-- WRITE_STATION's checks in order, and the record an accepted one stores (R4, R15, R16). -/
def Obligations.WriteStationChecksAndStores : Prop :=
  ∀ (s : State) (p : Port) (tag line party enabled home side pattern load selective guarded : Byte),
    Ready s p → s.inService p = true →
    let args := [line, party, enabled, home, side, pattern, load, selective, guarded]
    let c : Instr := .writeStation p tag line party enabled home side pattern load selective guarded
    let inRange := line.toNat ≤ 31 ∧ party.toNat ≤ 7 ∧ home.toNat ≤ 3 ∧ side.toNat ≤ 2 ∧ pattern.toNat ≤ 15 ∧
      load.toNat ≠ 0 ∧ enabled.toNat ≤ 1 ∧ selective.toNat ≤ 1 ∧ guarded.toNat ≤ 1
    (¬inRange → Refuses c s p tag 0x16 args 0x04) ∧
    (inRange → ∀ l : Fin 32, l.val = line.toNat →
      ((s.line l).desc.count ≤ party.toNat → Refuses c s p tag 0x16 args 0x04) ∧
      ∀ (y : Fin 8) (i : Fin 192), y.val = party.toNat → y.val < (s.line l).desc.count →
        i.val = (s.line l).desc.base.val + y.val →
        let forbidden := p ≠ .m ∧ ((s.station i).guarded = true ∨ guarded = 1)
        let referenced := (∃ j, s.job? l = some j ∧ j.station = some i) ∨
          ∃ r, s.revert? l = some r ∧ (r.caller = y ∨ r.called = y)
        (forbidden → Refuses c s p tag 0x16 args 0x05) ∧
        (¬forbidden → s.save.isSome = true → Refuses c s p tag 0x16 args 0x18) ∧
        (¬forbidden → s.save = none → referenced → Refuses c s p tag 0x16 args 0x14) ∧
        (¬forbidden → s.save = none → ¬referenced →
          ∃ (t : State) (x : Station), exec c s = .next t ∧
            t = { s with ports := t.ports, stations := t.stations } ∧ t.station i = x ∧
            (∀ k, k ≠ i → t.station k = s.station k) ∧
            x.enabled = (enabled == 1) ∧ feedCode x.home = home ∧ sideCode x.side = side ∧
            x.pattern.val = pattern.toNat ∧ x.load = min load.toNat 50 ∧ x.selective = (selective == 1) ∧
            x.guarded = (guarded == 1) ∧
            Answers s t p (tag :: 0x16 :: args)
              ([tag, 0x96, 0x00, BitVec.ofNat 8 i.val] ++ stationBytes x)))

/-- WRITE_PATTERN's checks in order, with no length saturated, and the record an accepted one stores: the counted bursts,
the others neither checked nor stored. A pattern is in use where a job holds it, or where the caller or called station of a
revert names it (R26, R27). -/
def Obligations.WritePatternChecksAndStores : Prop :=
  ∀ (s : State) (tag pattern count on1 off1 on2 off2 on3 off3 on4 off4 : Byte), Ready s .m →
    let args := [pattern, count, on1, off1, on2, off2, on3, off3, on4, off4]
    let c : Instr := .writePattern .m tag pattern count on1 off1 on2 off2 on3 off3 on4 off4
    let bursts : List Burst :=
      ([⟨on1.toNat, off1.toNat⟩, ⟨on2.toNat, off2.toNat⟩, ⟨on3.toNat, off3.toNat⟩, ⟨on4.toNat, off4.toNat⟩] :
        List Burst).take count.toNat
    let inRange := pattern.toNat ≤ 15 ∧ 1 ≤ count.toNat ∧ count.toNat ≤ 4 ∧
      ∀ b ∈ bursts, 2 ≤ b.on ∧ b.on ≤ 20 ∧ b.off ≤ 58
    (¬inRange → Refuses c s .m tag 0x17 args 0x04) ∧
    (inRange → ∀ k : Fin 16, k.val = pattern.toNat →
      let used := (∃ j ∈ s.jobs, j.pattern = some k) ∨
        ∃ r ∈ s.reverts, ∃ (y : Fin 8) (i : Fin 192), (y = r.caller ∨ y = r.called) ∧
          y.val < (s.line r.line).desc.count ∧ i.val = (s.line r.line).desc.base.val + y.val ∧
          (s.station i).pattern = k
      (s.save.isSome = true → Refuses c s .m tag 0x17 args 0x18) ∧
      (s.save = none → used → Refuses c s .m tag 0x17 args 0x14) ∧
      (s.save = none → ¬used →
        60 < (bursts.map fun b => b.on + b.off).sum ∨ 30 < (bursts.map (·.on)).sum →
        Refuses c s .m tag 0x17 args 0x17) ∧
      (s.save = none → ¬used →
        (bursts.map fun b => b.on + b.off).sum ≤ 60 → (bursts.map (·.on)).sum ≤ 30 →
        ∃ t, exec c s = .next t ∧ t = { s with ports := t.ports, patterns := t.patterns } ∧
          t.pattern k = ⟨bursts⟩ ∧ (∀ n, n ≠ k → t.pattern n = s.pattern n) ∧
          Answers s t .m (tag :: 0x17 :: args) ([tag, 0x97, 0x00] ++ patternBytes ⟨bursts⟩)))

/-- WRITE_FEED's checks in order; an accepted one stores the fields with the capacity saturated, changes no other feed,
sheds on the feed where its effective capacity fell, runs one pass and answers with the record, C and the new C_eff (R33,
R34, R43, R128, R129).
Shedding takes its victims one at a time until no position is overloaded: of the PLACED and RINGING jobs on the feed that
ring at an overloaded position the lowest class, and in it the latest in arrival order (R40). A shed job is WAITING with
no phase, wait timer 0 and its shed count up by one to at most 255, its drive is NONE, and it leaves FB where its home feed
is GOOD (R41, R124). That the pass may find its old phase again is log 32. -/
def Obligations.WriteFeedChecksAndStores : Prop :=
  (∀ (s : State) (tag feed freq : Byte) (capacity : BitVec 16) (fallback : Byte), Ready s .m →
    let args := [feed, freq, capacity.extractLsb' 8 8, capacity.extractLsb' 0 8, fallback]
    let c : Instr := .writeFeed .m tag feed freq capacity fallback
    let inRange := feed.toNat ≤ 4 ∧ freq.toNat ≤ 5 ∧ fallback.toNat ≤ 1 ∧ ¬(feed = 4 ∧ fallback = 1)
    (¬inRange → Refuses c s .m tag 0x18 args 0x04) ∧
    (inRange → ∀ f : Feed, feedCode f = feed →
      let used := (freq.toNat ≠ (s.feed f).freq ∧ ∃ j ∈ s.jobs, j.current = some f) ∨
        ((s.feed f).fallback = true ∧ fallback = 0 ∧ ∃ j ∈ s.jobs, j.home = some f ∧ j.current = some .fb)
      let stored := min capacity.toNat (if f = .fb then 200 else 600)
      (s.save.isSome = true → Refuses c s .m tag 0x18 args 0x18) ∧
      (s.save = none → used → Refuses c s .m tag 0x18 args 0x14) ∧
      (s.save = none → ¬used →
        ∃ t, exec c s = .next t ∧
          t = { s with ports := t.ports, feeds := t.feeds, lines := t.lines, jobs := t.jobs } ∧
          t.feed f = { s.feed f with freq := freq.toNat, capacity := stored, fallback := fallback == 1 } ∧
          (∀ g, g ≠ f → t.feed g = s.feed g) ∧ t.jobs.map (·.line) = s.jobs.map (·.line) ∧
          (∀ l, t.line l = s.line l ∨ t.line l = { s.line l with drive := none }) ∧
          (let k := match s.battery.level with | .normal => 100 | .low => 75 | .critical => 40
           let u := s.modFeed f fun x => { x with freq := freq.toNat, capacity := stored, fallback := fallback == 1 }
           let v := if stored * k / 100 < (s.feed f).capacity * k / 100 then u.shedFeed f else u
           t.jobs = v.pass.jobs ∧ t.lines = v.lines) ∧
          Answers s t .m (tag :: 0x18 :: args)
            ([tag, 0x98, 0x00] ++ feedBytes f (t.feed f) ++ wordBytes stored ++
              wordBytes (stored * (match s.battery.level with | .normal => 100 | .low => 75 | .critical => 40) / 100))))) ∧
  (∀ (s : State) (f : Feed),
    let k := match s.battery.level with | .normal => 100 | .low => 75 | .critical => 40
    let overloaded (t : Fin 60) : Prop := (s.feed f).capacity * k / 100 < s.profile f t.val
    let candidate (j : Job) : Prop :=
      (j.state = .placed ∨ j.state = .ringing) ∧ j.current = some f ∧
      ∃ t : Fin 60, overloaded t ∧ ∃ (n : Fin 16) (ph : Fin 12), j.pattern = some n ∧ j.phase = some ph ∧
        ∃ u ∈ onSet (s.pattern n), t.val = (u + 5 * ph.val) % 60
    ((∀ t, ¬overloaded t) → s.shedFeed f = s) ∧
    ∀ (earlier later : List Job) (j : Job), s.jobs = earlier ++ j :: later → candidate j →
      (∀ x ∈ earlier, candidate x → j.cls.val ≤ x.cls.val) → (∀ x ∈ later, candidate x → j.cls.val < x.cls.val) →
      s.shedFeed f = (s.shed j.line).shedFeed f) ∧
  ∀ (s : State) (l : Fin 32) (j : Job), s.job? l = some j →
    let t := s.shed l
    t = { s with jobs := t.jobs, lines := t.lines } ∧ t.line l = { s.line l with drive := none } ∧ OtherLinesSame s t l ∧
    t.jobs.map (·.line) = s.jobs.map (·.line) ∧ (∀ k, k ≠ l → t.job? k = s.job? k) ∧
    ((j.current ≠ some .fb ∨ ∀ h, j.home = some h → (s.feed h).state ≠ .good) →
      t.job? l = some { j with
        state := .waiting, phase := none, waitTimer := 0, shedCount := min (j.shedCount + 1) 255 }) ∧
    ∀ h, j.current = some .fb → j.home = some h → (s.feed h).state = .good →
      t.job? l = some { j with
        state := .waiting, phase := none, waitTimer := 0, shedCount := min (j.shedCount + 1) 255, current := some h }

/-! ### Maintenance -/

/-- RESET_LINE returns the line to a clean state: no job, no revert, no binding, not parked, drive NONE, a FAULTED line
ENABLED, supervision of an ENABLED line restarted. The descriptor apart from the admin state, and the serial, stay. The
owner is told of the ending, and ORIGINATION_ABANDONED goes to every plane in service where an origination is outstanding.
The answer gives what it found. One pass runs where the job held a reservation, else none (R54). The findings that wait
for a line that is ENABLED then are dropped (R86), the others kept
(R19; the job byte by log 16, the dropped findings by log 9, "outstanding" by logs 10 and 30). -/
def Obligations.ResetLineCleansTheLine : Prop :=
  ∀ (s : State) (tag line : Byte), Ready s .m →
    (32 ≤ line.toNat → Refuses (.resetLine .m tag line) s .m tag 0x19 [line] 0x04) ∧
    ∀ l : Fin 32, l.val = line.toNat →
      let x := s.line l
      let admin := if x.desc.admin = .faulted then Admin.enabled else x.desc.admin
      let cleared : Scan := { runCount := 0, view := .clear, samples := 0, tripRun := 0, mismatchRun := 0 }
      ∃ t, exec (.resetLine .m tag line) s = .next t ∧
        t = { s with ports := t.ports, lines := t.lines, jobs := t.jobs, reverts := t.reverts,
                     findings := t.findings } ∧
        t.line l =
          (if admin = .enabled then
            { x with desc := { x.desc with admin := admin }, supervision := .onHook, parked := false, owner := none,
                     drive := none, scan := cleared }
           else { x with desc := { x.desc with admin := admin }, parked := false, owner := none, drive := none }) ∧
        OtherLinesSame s t l ∧ t.hasJob l = false ∧ t.hasRevert l = false ∧ PoolAfterEnding s t l ∧
        t.reverts = s.reverts.filter (fun r => r.line != l) ∧
        t.findings = (if admin = .enabled then s.findings.filter (fun x => x.line != l) else s.findings) ∧
        Sends s t .m [tag, 0x19, line]
          [tag, 0x99, 0x00, ownerCode x.owner, if s.hasJob l then 1 else 0, if s.hasRevert l then 1 else 0,
           adminCode x.desc.admin] ∧
        (∀ (j : Job) (q : Port), s.job? l = some j → x.owner = some q →
          Reported (t.port q)
            { kind := if j.turn.isSome then .revertEnded else .ringEnded, line := some l, party := some j.party,
              detail := 4, serial := none, stamp := s.stamp }) ∧
        (OriginationStands s l → ∀ q, isPlane q = true → t.port q =
          if s.inService q = true then
            received (s.port q)
              { kind := .originationAbandoned, line := some l, party := none, detail := 0, serial := some x.serial,
                stamp := s.stamp }
          else s.port q) ∧
        (¬OriginationStands s l → s.job? l = none → s.revert? l = none → QueuesSame s t) ∧
        (OriginationStands s l → (t.port .m).queue = (s.port .m).queue)

/-- SAVE is refused SAVE_BUSY while one is in flight; otherwise it is answered ACCEPTED with the contents fixed; RESET is
answered OK and the commanded reset is to follow the response (R163, R182, R186; how the memory is shown meanwhile by
log 14). -/
def Obligations.SaveAndResetAreAccepted : Prop :=
  ∀ (s : State) (tag : Byte), Ready s .m →
    (s.save.isSome = true → Refuses (.save .m tag) s .m tag 0x1A [] 0x18) ∧
    (s.save = none →
      ∃ t, exec (.save .m tag) s = .next t ∧ t = { s with ports := t.ports, save := t.save, image := t.image } ∧
        t.save = some { contents := s.imageBytes, before := s.image } ∧
        (∀ a, 2 ≤ a → Memory.read t.image a = Memory.read s.image a) ∧ imageValid t.image = false ∧
        Answers s t .m [tag, 0x1A] [tag, 0x9A, 0x01]) ∧
    ∃ t, exec (.reset .m tag) s = .next t ∧ t = { s with ports := t.ports, resetStage := .answered } ∧
      Answers s t .m [tag, 0x1B] [tag, 0x9B, 0x00]

/-- CLEAR_FAULT and CLEAR_CAUSE empty what they name and answer with it as it stood; CLEAR_FEED_FAULT clears the latch
and the freeze; FORCE_SENSE_LOSS sets or clears the flag. Each is taken while a SAVE is in flight and changes nothing else
(R126, R127, R175, R179). -/
def Obligations.ClearsAndForcedLoss : Prop :=
  ∀ (s : State) (tag b v : Byte), Ready s .m →
    (∃ t, exec (.clearFault .m tag) s = .next t ∧
      t = { s with ports := t.ports, faultRecord := none, missed := .empty } ∧
      Answers s t .m [tag, 0x1C] ([tag, 0x9C, 0x00] ++ faultBytes s.faultRecord s.missed)) ∧
    (∃ t, exec (.clearCause .m tag) s = .next t ∧ t = { s with ports := t.ports, causes := .empty } ∧
      Answers s t .m [tag, 0x1F] [tag, 0x9F, 0x00, causeByte s.causes]) ∧
    (5 ≤ b.toNat → Refuses (.clearFeedFault .m tag b) s .m tag 0x1D [b] 0x04) ∧
    (5 ≤ b.toNat ∨ 2 ≤ v.toNat → Refuses (.forceSenseLoss .m tag b v) s .m tag 0x1E [b, v] 0x04) ∧
    ∀ f : Feed, feedCode f = b →
      (∃ t, exec (.clearFeedFault .m tag b) s = .next t ∧ t = { s with ports := t.ports, feeds := t.feeds } ∧
        t.feed f = { s.feed f with latch := false, frozen := false } ∧ (∀ g, g ≠ f → t.feed g = s.feed g) ∧
        Answers s t .m [tag, 0x1D, b]
          [tag, 0x9D, 0x00, feedStateCode (s.feed f).state, if (s.feed f).latch then 1 else 0]) ∧
      (v.toNat ≤ 1 →
        ∃ t, exec (.forceSenseLoss .m tag b v) s = .next t ∧ t = { s with ports := t.ports, feeds := t.feeds } ∧
          t.feed f = { s.feed f with forcedLoss := v == 1 } ∧ (∀ g, g ≠ f → t.feed g = s.feed g) ∧
          Answers s t .m [tag, 0x1E, b, v] [tag, 0x9E, 0x00, v, feedStateCode (s.feed f).state])

/-! ### The scheduler's timer -/

/-- Every expiry in RUN advances the position modulo 60 and the stamp count. A PLACED job whose boundary falls there enters
RINGING, any other PLACED job stays as it is, and so does a RINGING job between its frame ends. The wait timer of a WAITING
or SUSPENDED job and the hang-up timer of a revert in AWAIT_HANGUP advance by one, and but for a placement by the pass the
job is otherwise kept, unless the timer ends it. After the expiry the drive of each RINGING job's line is set exactly when
the position is in the job's absolute on-set; a burst that starts carries the job's current feed and its station's side,
and a burst that goes on keeps its drive. A feed's last-burst record takes the last burst that starts on it in arrival
order, with the new stamp, unless it is frozen, and is left as it is where none starts. The whole pool is what `jobAtExpiry`
makes of each job; one pass runs over it at the new position where a job left a feed, and none otherwise. Nothing of the
configuration, the
battery, the reference, the fault record or the service changes (R10, R24, R29, R30, R31, R56, R57, R60, R61, R98, R103,
R123, R125). -/
def Obligations.ExpiryFollowsTheOnSets : Prop :=
  ∀ s : State, s.phase = .run → PoolBounded s → JobsShaped s → RevertsNameStations s →
    ∃ t, exec .cadenceTick s = .next t ∧
      t = { s with pos := t.pos, stamp := s.stamp + 1, lines := t.lines, feeds := t.feeds, jobs := t.jobs,
                   reverts := t.reverts, ports := t.ports } ∧
      t.pos.val = (s.pos.val + 1) % 60 ∧
      (∀ l, (t.line l).desc = (s.line l).desc ∧ (t.line l).supervision = (s.line l).supervision ∧
        (t.line l).serial = (s.line l).serial ∧ (t.line l).scan = (s.line l).scan) ∧
      (let u : State := { t with jobs := s.jobs.filterMap (jobAtExpiry s) }
       t.jobs = if s.jobs.any (leavesFeedNow s) then u.pass.jobs else u.jobs) ∧
      (∀ (l : Fin 32) (j : Job) (ph : Fin 12), s.job? l = some j → j.state = .placed → j.phase = some ph →
        t.job? l = if t.pos.val = 5 * ph.val then some { j with state := .ringing } else some j) ∧
      (∀ (l : Fin 32) (j : Job) (ph : Fin 12), s.job? l = some j → j.state = .ringing → j.phase = some ph →
        t.pos.val ≠ 5 * ph.val → t.job? l = some j) ∧
      (∀ (l : Fin 32) (j : Job), s.job? l = some j → j.state = .waiting ∨ j.state = .suspended → j.waitTimer ≠ 299 →
        ∃ j', t.job? l = some j' ∧
          j' = { j with waitTimer := j.waitTimer + 1, state := j'.state, phase := j'.phase } ∧
          (j'.state = j.state ∨ (j.state = .waiting ∧ j'.state = .placed)) ∧
          (j'.phase.isSome = true ↔ j'.state = .placed)) ∧
      (∀ (l : Fin 32) (j : Job) (r : Revert), s.job? l = some j → j.state = .reserved → s.revert? l = some r →
        r.state = .awaitHangup → r.hangupTimer ≠ 299 →
        t.job? l = some j ∧ t.revert? l = some { r with hangupTimer := r.hangupTimer + 1 }) ∧
      (∀ (l : Fin 32) (d : Drive), (t.line l).drive = some d →
        ((s.line l).drive = none → ∃ (j : Job) (i : Fin 192), t.job? l = some j ∧ j.station = some i ∧
          j.current = some d.feed ∧ d.side = (s.station i).side) ∧
        ((s.line l).drive ≠ none → (s.line l).drive = some d)) ∧
      (let starts (l : Fin 32) (y : Fin 8) (f : Feed) : Prop :=
         (s.line l).drive = none ∧ (∃ d, (t.line l).drive = some d ∧ d.feed = f) ∧
         ∃ j, t.job? l = some j ∧ j.party = y
       let place (l : Fin 32) : Nat := s.jobs.findIdx fun j => j.line == l
       ∀ f,
         ((s.feed f).frozen = true ∨ (∀ l y, ¬starts l y f) → t.feed f = s.feed f) ∧
         ∀ l y, (s.feed f).frozen = false → starts l y f → (∀ k z, starts k z f → place k ≤ place l) →
           t.feed f = { s.feed f with lastBurst := some ⟨l, y, s.stamp + 1⟩ }) ∧
      ∀ (l : Fin 32) (j : Job) (k : Fin 16) (ph : Fin 12),
        t.job? l = some j → j.state = .ringing → j.pattern = some k → j.phase = some ph →
        ((t.line l).drive.isSome = true ↔ ∃ u ∈ onSet (s.pattern k), t.pos.val = (u + 5 * ph.val) % 60)

/-- The expiry that completes a job's last frame ends it NO_ANSWER: the job, its revert and its drive are gone, the owner
is told, and the binding is released where supervision is ON_HOOK and kept otherwise (R59, R70, R110).
NO_ANSWER stands for the whole expiry (log 6), whose pass `ExpiryFollowsTheOnSets` says; supervision is met as log 30
says. -/
def Obligations.LastFrameEndsNoAnswer : Prop :=
  ∀ (s : State) (l : Fin 32) (j : Job) (ph : Fin 12),
    s.phase = .run → PoolBounded s → s.job? l = some j → j.state = .ringing → j.phase = some ph →
    (s.pos.val + 1) % 60 = 5 * ph.val → j.framesRung + 1 = j.frameLimit →
    ∃ t, exec (.noAnswer l) s = .next t ∧ exec .cadenceTick s = .next t ∧
      t.hasJob l = false ∧ t.hasRevert l = false ∧
      t.line l =
        (if supervisionMet s l = .onHook then { s.line l with drive := none, owner := none, parked := false }
         else { s.line l with drive := none }) ∧
      ∀ q, (s.line l).owner = some q →
        Reported (t.port q)
          { kind := if j.turn.isSome then .revertEnded else .ringEnded, line := some l, party := some j.party,
            detail := 1, serial := none, stamp := s.stamp + 1 }

/-- The expiry that takes a wait timer to 300 ends the job WAIT_EXPIRED, and the one that takes a hang-up timer to 300 ends
the revert NO_HANGUP with its binding kept (R61, R70, R98, R110).
Both rows stand for the whole expiry (log 6), whose pass `ExpiryFollowsTheOnSets` says; supervision is met as log 30
says. -/
def Obligations.TimersEndAtThreeHundred : Prop :=
  ∀ (s : State) (l : Fin 32) (j : Job), s.phase = .run → PoolBounded s → s.job? l = some j →
    ((j.state = .waiting ∨ j.state = .suspended) → j.waitTimer = 299 →
      ∃ t, exec (.waitExpired l) s = .next t ∧ exec .cadenceTick s = .next t ∧
        t.hasJob l = false ∧ t.hasRevert l = false ∧
        t.line l =
          (if supervisionMet s l = .onHook then { s.line l with drive := none, owner := none, parked := false }
           else { s.line l with drive := none }) ∧
        ∀ q, (s.line l).owner = some q →
          Reported (t.port q)
            { kind := if j.turn.isSome then .revertEnded else .ringEnded, line := some l, party := some j.party,
              detail := 2, serial := none, stamp := s.stamp + 1 }) ∧
    (∀ r, s.revert? l = some r → j.state = .reserved → j.turn.isSome = true → r.state = .awaitHangup →
      r.hangupTimer = 299 →
      ∃ t, exec (.noHangup l) s = .next t ∧ exec .cadenceTick s = .next t ∧
        t.hasJob l = false ∧ t.hasRevert l = false ∧ t.line l = { s.line l with drive := none } ∧
        ∀ q, (s.line l).owner = some q →
          Reported (t.port q)
            { kind := .revertEnded, line := some l, party := some j.party, detail := 6, serial := none,
              stamp := s.stamp + 1 })

/-- What a frame end before the limit does, at the expiry that makes it (R59, R103, R123).
Where a turn is due, on a revert that rings the caller with two parties, the drive is NONE, the revert's state and the
job's turn flip, and the job holds the other party's station with its target by R47, wait timer 0. Where none is and the
job rings on FB with its home feed GOOD, it returns to its home feed. Otherwise its next frame begins at the same phase.
In every case the frame is counted; whether a pass runs is said of the whole expiry in `ExpiryFollowsTheOnSets` (R60).
RING_PROGRESS goes to the owner at the one frame end where it is due, and a frame end
before the limit posts nothing else. -/
def Obligations.TurnTakesTheOtherParty : Prop :=
  (∀ (s : State) (l : Fin 32) (j : Job) (r : Revert) (i : Fin 192) (ph : Fin 12) (u : Turn),
     s.phase = .run → PoolBounded s → s.job? l = some j → s.revert? l = some r → j.state = .ringing →
     j.turn = some u → r.state ≠ .awaitHangup → r.ringCaller = true → r.caller ≠ r.called →
     j.phase = some ph → (s.pos.val + 1) % 60 = 5 * ph.val → j.framesRung + 1 ≠ j.frameLimit →
     let y := if u = .called then r.caller else r.called
     y.val < (s.line l).desc.count → i.val = (s.line l).desc.base.val + y.val →
     let x := s.station i
     ∃ (t : State) (j' : Job), exec .cadenceTick s = .next t ∧ t.job? l = some j' ∧
       t.line l = { s.line l with drive := none } ∧
       t.revert? l =
         some { r with state := if r.state = .ringingCalled then .ringingCaller else .ringingCalled } ∧
       j' = { j with
         party := y, station := some i, pattern := some x.pattern, load := some (x.load + (s.line l).desc.allowance),
         home := some x.home, turn := some (if u = .called then .caller else .called),
         framesRung := j.framesRung + 1, waitTimer := 0, state := j'.state, current := j'.current,
         phase := j'.phase } ∧
       (if (s.feed x.home).state = .good then j'.current = some x.home ∧ (j'.state = .waiting ∨ j'.state = .placed)
        else if x.selective = false ∧ (s.feed x.home).fallback = true ∧ (s.feed .fb).state = .good then
          j'.current = some .fb ∧ (j'.state = .waiting ∨ j'.state = .placed)
        else j'.current = none ∧ j'.state = .suspended) ∧
       (j'.phase.isSome = true ↔ j'.state = .placed)) ∧
  (∀ (s : State) (l : Fin 32) (j : Job) (ph : Fin 12),
     s.phase = .run → PoolBounded s → s.job? l = some j → j.state = .ringing → j.phase = some ph →
     (s.pos.val + 1) % 60 = 5 * ph.val → j.framesRung + 1 ≠ j.frameLimit →
     (∀ r, s.revert? l = some r → r.ringCaller = false ∨ r.caller = r.called) →
     ∃ (t : State) (j' : Job), exec .cadenceTick s = .next t ∧ t.job? l = some j' ∧
       (∀ h, j.current = some .fb → j.home = some h → (s.feed h).state = .good →
         t.line l = { s.line l with drive := none } ∧
         j' = { j with framesRung := j.framesRung + 1, waitTimer := 0, current := some h, state := j'.state,
                       phase := j'.phase } ∧
         (j'.state = .waiting ∨ j'.state = .placed) ∧ (j'.phase.isSome = true ↔ j'.state = .placed)) ∧
       (j.current ≠ some .fb ∨ (∀ h, j.home = some h → (s.feed h).state ≠ .good) →
         j' = { j with framesRung := j.framesRung + 1 })) ∧
  ∀ (l : Fin 32) (j : Job), j.framesRung + 1 ≠ j.frameLimit →
    let due := j.progress = true ∧ j.framesRung + 1 = (j.frameLimit + 1) / 2
    let e (stamp : BitVec 16) : Event :=
      { kind := .ringProgress, line := some l, party := some j.party,
        detail := BitVec.ofNat 8 0 ++ BitVec.ofNat 8 (j.framesRung + 1), serial := none, stamp := stamp }
    (∀ s : State, s.job? l = some j →
      (∀ q, due → (s.line l).owner = some q → OneReceives s (s.frameEnd l).1 q (e s.stamp)) ∧
      (¬due ∨ (s.line l).owner = none → (s.frameEnd l).1.ports = s.ports)) ∧
    ∀ (s : State) (ph : Fin 12) (q : Port), s.phase = .run → PoolBounded s → s.job? l = some j → j.state = .ringing →
      j.phase = some ph → (s.pos.val + 1) % 60 = 5 * ph.val → due → (s.line l).owner = some q →
      ∃ t, exec .cadenceTick s = .next t ∧ Reported (t.port q) (e (s.stamp + 1))

/-! ### The scanner -/

/-- A sample applies the tables of R75 and R76 to every scanned line whose drive view it finds CLEAR: supervision, run
count and the finding made; a failed closure clears parked (R75, R76, R77, R85). Where the line was parked, its findings that
still wait, up to the oldest on-hook one, come to nothing with the flag, as they post nothing on a released line (R86,
log 30). -/
def Obligations.LoopSamplesFollowTheTables : Prop :=
  ∀ (s : State) (inputs : List LineInput) (i : LineInput), (Instr.scannerSample inputs).wf = true → s.phase = .run →
    i ∈ inputs →
    let x := s.line i.line
    x.drive = none → (x.scan.view = .clear ∨ (x.scan.view = .guard ∧ 9 ≤ x.scan.samples)) →
    let next := loopTable x.supervision x.scan.runCount i.closed
    ∃ t, exec (.scannerSample inputs) s = .next t ∧
      (t.line i.line).supervision = next.1 ∧ (t.line i.line).scan.runCount = next.2.1 ∧
      (let fails := x.supervision = .closing ∧ i.closed = false
       (fails → (t.line i.line).parked = false) ∧
       (fails → x.parked = true →
         findingsOf t i.line = ((findingsOf s i.line).dropWhile (· != .onHook)).tail) ∧
       (¬fails ∨ x.parked = false → findingsOf t i.line = findingsOf s i.line ++ next.2.2.toList)) ∧
      (t.line i.line).serial = x.serial

/-- A sample takes every scanned line's drive view and drive sample count by the table of R77; an UNSCANNED line is not
sampled (R74, R77). The sample that finds a burst started, and every sample that leaves the view at GUARD, hold
supervision, run count and findings (R78). The trip run is 0 where a burst starts and where one ends, and is not touched
while the view is CLEAR or GUARD (R77, R79). The sample that follows guard sample 9 ends the burst guard, and that line's
sample changes no other line.
BURST_GUARD_END stands for the one line's sample (log 7). -/
def Obligations.DriveViewFollowsTheTable : Prop :=
  (∀ (s : State) (inputs : List LineInput), (Instr.scannerSample inputs).wf = true → s.phase = .run →
     ∃ t, exec (.scannerSample inputs) s = .next t ∧
       t = { s with lines := t.lines, jobs := t.jobs, reverts := t.reverts, findings := t.findings, ports := t.ports,
                    faultRecord := t.faultRecord, missed := t.missed } ∧
       ∀ l, ((s.line l).supervision = .unscanned → t.line l = s.line l) ∧
         ((s.line l).supervision ≠ .unscanned →
           ((t.line l).scan.view, (t.line l).scan.samples) =
             viewTable (s.line l).scan.view (s.line l).drive.isSome (s.line l).scan.samples ∧
           (((t.line l).scan.view = .guard ∨ (t.line l).scan.view = .burst ∧ (s.line l).scan.view ≠ .burst) →
             (t.line l).supervision = (s.line l).supervision ∧
             (t.line l).scan.runCount = (s.line l).scan.runCount ∧ findingsOf t l = findingsOf s l) ∧
           ((t.line l).scan.view = .burst ∧ (s.line l).scan.view ≠ .burst → (t.line l).scan.tripRun = 0) ∧
           ((t.line l).scan.view ≠ .burst →
             (t.line l).scan.tripRun = if (s.line l).scan.view = .burst then 0 else (s.line l).scan.tripRun))) ∧
  ∀ (s : State) (i : LineInput), s.phase = .run →
    let x := s.line i.line
    x.supervision ≠ .unscanned → x.scan.view = .guard → x.drive = none → 9 ≤ x.scan.samples →
    ∃ t, exec (.burstGuardEnd i) s = .next t ∧
      (t.line i.line).scan.view = .clear ∧ (t.line i.line).scan.samples = 0 ∧
      (t.line i.line).supervision = (loopTable x.supervision x.scan.runCount i.closed).1 ∧
      OtherLinesSame s t i.line

/-- During a burst trip sense is blanked at burst samples 0 to 19 and while the line is off-hook; from then on the third
PRESENT sample in a run takes the line to OFF_HOOK with a trip finding (R79). But for that trip, supervision, run count and
findings are held (R78).
A sample that also finds a relay fault judges trip sense by the drive view that its first step gave, by log 22. -/
def Obligations.TripNeedsThreeSamples : Prop :=
  ∀ (s : State) (inputs : List LineInput) (i : LineInput), (Instr.scannerSample inputs).wf = true → s.phase = .run →
    i ∈ inputs →
    let x := s.line i.line
    x.supervision ≠ .unscanned → x.drive.isSome = true → x.scan.view = .burst →
    let counted := 20 ≤ min (x.scan.samples + 1) 65535 ∧ x.supervision ≠ .offHook ∧ x.supervision ≠ .opening ∧
      i.trip = true
    ∃ t, exec (.scannerSample inputs) s = .next t ∧
      (¬counted → (t.line i.line).scan.tripRun = 0 ∧ (t.line i.line).supervision = x.supervision ∧
        (t.line i.line).scan.runCount = x.scan.runCount ∧ findingsOf t i.line = findingsOf s i.line) ∧
      (counted → x.scan.tripRun < 2 → (t.line i.line).scan.tripRun = x.scan.tripRun + 1 ∧
        (t.line i.line).supervision = x.supervision ∧ (t.line i.line).scan.runCount = x.scan.runCount ∧
        findingsOf t i.line = findingsOf s i.line) ∧
      (counted → 2 ≤ x.scan.tripRun → (t.line i.line).scan.tripRun = 0 ∧ (t.line i.line).scan.runCount = 0 ∧
        (t.line i.line).supervision = .offHook ∧ findingsOf t i.line = findingsOf s i.line ++ [.trip])

/-- The fifth mismatch in a run on an ENABLED line makes it FAULTED with drive NONE, abandons an outstanding origination,
ends its job and revert, and is captured. Owner and parked are kept on a line without work, parked unless the same sample
fails a closure; the binding of a line that had work is released where supervision is ON_HOOK and kept otherwise. No other
line changes; one pass runs where the job held a reservation, else none (R6, R54, R65, R70, R87, R88, R113, R172).
On an ENABLED line a matching sample clears the mismatch run and a mismatching one adds one, the line kept as it is until
the fifth; a line that is not ENABLED is not checked (R87).
The row stands for the one line's sample (logs 7 and 22); "outstanding" and ON_HOOK by logs 10 and 30. -/
def Obligations.FifthMismatchIsARelayFault : Prop :=
  (∀ (s : State) (inputs : List LineInput) (i : LineInput), (Instr.scannerSample inputs).wf = true → s.phase = .run →
    i ∈ inputs →
    let x := s.line i.line
    let mismatch := i.operated ≠ x.drive.isSome
    x.supervision ≠ .unscanned →
    ∃ t, exec (.scannerSample inputs) s = .next t ∧
      (t.line i.line).scan.mismatchRun =
        (if x.desc.admin ≠ .enabled then x.scan.mismatchRun
         else if mismatch ∧ x.scan.mismatchRun < 4 then x.scan.mismatchRun + 1 else 0) ∧
      (x.desc.admin ≠ .enabled ∨ ¬mismatch ∨ x.scan.mismatchRun < 4 →
        (t.line i.line).desc = x.desc ∧ (t.line i.line).drive = x.drive ∧ (t.line i.line).owner = x.owner ∧
        t.hasJob i.line = s.hasJob i.line ∧ t.hasRevert i.line = s.hasRevert i.line) ∧
      (x.desc.admin = .enabled → mismatch → 4 ≤ x.scan.mismatchRun →
        (t.line i.line).desc = { x.desc with admin := .faulted } ∧ (t.line i.line).drive = none ∧
        t.hasJob i.line = false ∧ t.hasRevert i.line = false)) ∧
  ∀ (s : State) (i : LineInput), s.phase = .run →
    let l := i.line
    let x := s.line l
    x.supervision ≠ .unscanned → x.desc.admin = .enabled → i.operated ≠ x.drive.isSome → x.scan.mismatchRun = 4 →
    ∃ t, exec (.relayFault i) s = .next t ∧
      (t.line l).desc = { x.desc with admin := .faulted } ∧ (t.line l).drive = none ∧
      (t.line l).scan.mismatchRun = 0 ∧ (t.line l).serial = x.serial ∧
      t.hasJob l = false ∧ t.hasRevert l = false ∧
      (s.hasJob l = false → s.hasRevert l = false →
        (t.line l).owner = x.owner ∧
        (t.line l).parked =
          (if x.supervision = .closing ∧ i.closed = false ∧
              (viewTable x.scan.view x.drive.isSome x.scan.samples).1 = .clear then false else x.parked)) ∧
      (s.hasJob l = true ∨ s.hasRevert l = true →
        (supervisionMet s l = .onHook → (t.line l).owner = none ∧ (t.line l).parked = false) ∧
        (supervisionMet s l ≠ .onHook → (t.line l).owner = x.owner)) ∧
      (s.hasJob l = false → ∀ q, isPlane q = true →
        (OriginationStands s l → s.inService q = true →
          t.port q = received (s.port q)
            { kind := .originationAbandoned, line := some l, party := none, detail := 0, serial := some x.serial,
              stamp := s.stamp }) ∧
        (¬OriginationStands s l ∨ s.inService q = false → t.port q = s.port q)) ∧
      OtherLinesSame s t l ∧ PoolAfterEnding s t l ∧
      (s.faultRecord = none →
        t.faultRecord = some { kind := .relayFault, feed := none, line := some l, stamp := s.stamp } ∧
        Reported (t.port .m)
          { kind := .faultCaptured, line := some l, party := none, detail := 0x01FF, serial := none,
            stamp := s.stamp }) ∧
      (∀ record, s.faultRecord = some record →
        t.faultRecord = some record ∧ t.missed = { s.missed with relayFault := true }) ∧
      ∀ (j : Job) (q : Port), s.job? l = some j → x.owner = some q →
        Reported (t.port q)
          { kind := if j.turn.isSome then .revertEnded else .ringEnded, line := some l, party := some j.party,
            detail := 5, serial := none, stamp := s.stamp }

/-- An off-hook finding, or a trip finding, on a line with neither job nor revert: an unbound, ENABLED, unparked line
raises an origination with the next serial to every plane in service; a bound line reports LINE_OFF_HOOK to its owner;
any other reports nothing (R80, R81, R84, R85).
Findings are handed on from the list of log 9. -/
def Obligations.OffHookOfAnIdleLine : Prop :=
  ∀ (s : State) (l : Fin 32) (k : FindingKind) (c : Instr),
    (k = .offHook ∧ c = .offHookFinding l ∨ k = .trip ∧ c = .tripFinding l) → s.nextFinding l = some k →
    s.hasJob l = false → s.hasRevert l = false →
    ∃ t, exec c s = .next t ∧ findingsOf s l = k :: findingsOf t l ∧
      ((s.line l).owner = none → (s.line l).desc.admin = .enabled → (s.line l).parked = false →
        t = { s with ports := t.ports, lines := t.lines, findings := t.findings } ∧
        t.line l = { s.line l with serial := (s.line l).serial + 1 } ∧ OtherLinesSame s t l ∧
        PlanesReceive s t
          { kind := .origination, line := some l, party := none, detail := 0,
            serial := some ((s.line l).serial + 1), stamp := s.stamp }) ∧
      (∀ q, (s.line l).owner = some q →
        t = { s with ports := t.ports, findings := t.findings } ∧
        OneReceives s t q
          { kind := .lineOffHook, line := some l, party := none, detail := 0, serial := none, stamp := s.stamp }) ∧
      ((s.line l).owner = none → (s.line l).desc.admin ≠ .enabled ∨ (s.line l).parked = true →
        t = { s with findings := t.findings })

/-- An off-hook finding, or a trip finding, on a line with a job: a RINGING ordinary job is answered, one in WAITING,
PLACED or SUSPENDED ends OFF_HOOK_AT_START, a revert's job in a ringing state is answered, and a revert in AWAIT_HANGUP is
left alone. The drive is NONE, the binding is kept, and one pass runs where the job held a reservation, else none (R54, R63,
R64, R71, R100, R107).
Findings are handed on from the list of log 9. -/
def Obligations.OffHookEndsTheJob : Prop :=
  ∀ (s : State) (l : Fin 32) (k : FindingKind) (c : Instr) (j : Job),
    (k = .offHook ∧ c = .offHookFinding l ∨ k = .trip ∧ c = .tripFinding l) → s.nextFinding l = some k →
    s.job? l = some j →
    (∀ r, s.revert? l = some r → r.state = .awaitHangup →
      ∃ t, exec c s = .next t ∧ t = { s with findings := t.findings } ∧ findingsOf s l = k :: findingsOf t l) ∧
    (((s.revert? l = none ∧ j.turn = none ∧ j.state ≠ .reserved) ∨
        ∃ r, s.revert? l = some r ∧ r.state ≠ .awaitHangup ∧ j.turn.isSome = true) →
      ∃ t, exec c s = .next t ∧
        t = { s with ports := t.ports, lines := t.lines, jobs := t.jobs, reverts := t.reverts,
                     findings := t.findings } ∧
        findingsOf s l = k :: findingsOf t l ∧
        t.line l = { s.line l with drive := none } ∧ OtherLinesSame s t l ∧
        PoolAfterEnding s t l ∧ t.hasRevert l = false ∧
        ∀ q, (s.line l).owner = some q →
          OneReceives s t q
            { kind := if j.turn.isSome then .revertAnswered else if j.state = .ringing then .ringAnswered
                else .ringEnded
              line := some l, party := some j.party
              detail := if j.turn.isSome ∨ j.state = .ringing then BitVec.ofNat 8 0 ++ BitVec.ofNat 8 j.framesRung
                else 3
              serial := none, stamp := s.stamp })

/-- An on-hook finding: a bound line without a revert reports LINE_ON_HOOK to its owner and is released; an unbound line
offered to the planes has its origination abandoned; in every case parked is cleared. A flash finding on a bound line
without a revert posts LINE_FLASH with its duration to the owner, and on any other line nothing; it changes no binding,
parked flag, serial, job or revert (R82, R83, R100).
Findings are handed on from the list of log 9. No on-hook finding reaches a line with an ordinary job in the runs of the
part (log 30 and `WorkMatchesTheHook`). -/
def Obligations.OnHookAndFlashReachTheOwner : Prop :=
  (∀ (s : State) (l : Fin 32), s.nextFinding l = some .onHook → s.hasRevert l = false →
     ∃ t, exec (.onHookFinding l) s = .next t ∧
       t = { s with ports := t.ports, lines := t.lines, findings := t.findings } ∧
       findingsOf s l = .onHook :: findingsOf t l ∧
       t.line l = { s.line l with owner := none, parked := false } ∧ OtherLinesSame s t l ∧
       (∀ q, (s.line l).owner = some q →
         OneReceives s t q
           { kind := .lineOnHook, line := some l, party := none, detail := 0, serial := none, stamp := s.stamp }) ∧
       ((s.line l).owner = none → (s.line l).desc.admin = .enabled → (s.line l).parked = false → s.hasJob l = false →
         PlanesReceive s t
           { kind := .originationAbandoned, line := some l, party := none, detail := 0,
             serial := some (s.line l).serial, stamp := s.stamp }) ∧
       ((s.line l).owner = none →
         (s.line l).desc.admin ≠ .enabled ∨ (s.line l).parked = true ∨ s.hasJob l = true → t.ports = s.ports)) ∧
  ∀ (s : State) (l : Fin 32) (n : Nat), s.nextFinding l = some (.flash n) →
    ∃ t, exec (.flashFinding l) s = .next t ∧ t = { s with ports := t.ports, findings := t.findings } ∧
      findingsOf s l = .flash n :: findingsOf t l ∧
      (s.hasRevert l = true ∨ (s.line l).owner = none → t.ports = s.ports) ∧
      ∀ q, s.hasRevert l = false → (s.line l).owner = some q →
        OneReceives s t q
          { kind := .lineFlash, line := some l, party := none, detail := BitVec.ofNat 8 0 ++ BitVec.ofNat 8 n,
            serial := none, stamp := s.stamp }

/-- The on-hook finding that a revert in AWAIT_HANGUP waits for starts ringing the called party: RINGING_CALLED, the job
holds the called party's station and the target that R47 selects, WAITING or placed by the pass on the home feed or FB or
else SUSPENDED, one pass runs over the pool, the binding stays, and REVERT_RINGING reports the job's state after the pass
(R47, R54, R82, R99).
Findings are handed on from the list of log 9. -/
def Obligations.HangUpStartsTheRevert : Prop :=
  ∀ (s : State) (l : Fin 32) (r : Revert) (j : Job) (i : Fin 192) (q : Port),
    s.nextFinding l = some .onHook → s.revert? l = some r → r.state = .awaitHangup → s.job? l = some j →
    (s.line l).owner = some q → r.called.val < (s.line l).desc.count →
    i.val = (s.line l).desc.base.val + r.called.val →
    ∃ (t : State) (j' : Job), exec (.onHookFinding l) s = .next t ∧
      t = { s with ports := t.ports, lines := t.lines, jobs := t.jobs, reverts := t.reverts,
                   findings := t.findings } ∧
      t.line l = { s.line l with parked := false } ∧ OtherLinesSame s t l ∧
      t.revert? l = some { r with state := .ringingCalled } ∧ t.jobs.map (·.line) = s.jobs.map (·.line) ∧
      (let x := s.station i
       let g := chosenTarget s x.home x.selective
       t.jobs = (s.modJob l fun k =>
         { k with
           party := r.called, station := some i, pattern := some x.pattern
           load := some (x.load + (s.line l).desc.allowance), home := some x.home, state := g.1, current := g.2
           phase := none, waitTimer := 0 }).pass.jobs) ∧
      t.job? l = some j' ∧
      (let x := s.station i
       j' = { j with
         party := r.called, station := some i, pattern := some x.pattern,
         load := some (x.load + (s.line l).desc.allowance), home := some x.home, waitTimer := 0, state := j'.state,
         current := j'.current, phase := j'.phase } ∧
       (if (s.feed x.home).state = .good then j'.current = some x.home ∧ (j'.state = .waiting ∨ j'.state = .placed)
        else if x.selective = false ∧ (s.feed x.home).fallback = true ∧ (s.feed .fb).state = .good then
          j'.current = some .fb ∧ (j'.state = .waiting ∨ j'.state = .placed)
        else j'.current = none ∧ j'.state = .suspended) ∧
       (j'.phase.isSome = true ↔ j'.state = .placed)) ∧
      OneReceives s t q
        { kind := .revertRinging, line := some l, party := some r.called,
          detail := BitVec.ofNat 8 0 ++ jobStateCode j'.state, serial := none, stamp := s.stamp }

/-! ### Feeds -/

/-- One sample applies the table of R118 to each of the five feeds, whatever the other feeds do (R118, R127). -/
def Obligations.FeedSamplesFollowTheTable : Prop :=
  ∀ (s : State) (inputs : List FeedInput) (i : FeedInput), (Instr.feedSample inputs).wf = true → s.phase = .run →
    i ∈ inputs →
    let x := s.feed i.feed
    let present := i.present = true ∧ x.forcedLoss = false
    ∃ t, exec (.feedSample inputs) s = .next t ∧
      (x.state = .good → present → t.feed i.feed = { x with absentRun := 0 }) ∧
      (x.state = .good → ¬present → x.absentRun < 29 → t.feed i.feed = { x with absentRun := x.absentRun + 1 }) ∧
      (x.state = .good → ¬present → 29 ≤ x.absentRun →
        t.feed i.feed = { x with state := .failed, absentRun := 0, presentRun := 0, latch := true, frozen := true }) ∧
      (x.state = .failed → ¬present → t.feed i.feed = { x with presentRun := 0 }) ∧
      (x.state = .failed → present → x.presentRun < 499 →
        t.feed i.feed = { x with presentRun := x.presentRun + 1 }) ∧
      (x.state = .failed → present → 499 ≤ x.presentRun →
        t.feed i.feed = { x with state := .good, absentRun := 0, presentRun := 0 })

/-- A feed fails: FAILED with its latch set and its last-burst record frozen; no job is left on it and no line whose job
was on it is driven. Each such job has the target that R47 selects with the feed FAILED, frames rung kept and wait timer 0:
WAITING or placed by the pass on its home feed or on FB, or else SUSPENDED; no other placed, ringing or suspended job is
touched. One pass runs where the moves removed a reservation, else none. FEED_STATE goes to Port M and every plane in
service, and then the fault is captured (R47, R119, R120, R171,
R173).
The row stands for the one feed's sample (log 7); the phase the pass may find at once is log 32's. -/
def Obligations.FailureClearsTheFeed : Prop :=
  ∀ (s : State) (f : Feed), s.phase = .run → PoolBounded s → JobsShaped s → (s.feed f).state = .good →
    (s.feed f).absentRun = 29 →
    let e : Event :=
      { kind := .feedState, line := none, party := none, detail := feedCode f ++ BitVec.ofNat 8 1, serial := none,
        stamp := s.stamp }
    ∃ t, exec (.feedFail f) s = .next t ∧
      t = { s with feeds := t.feeds, jobs := t.jobs, lines := t.lines, ports := t.ports,
                   faultRecord := t.faultRecord, missed := t.missed } ∧
      t.feed f =
        { s.feed f with state := .failed, absentRun := 0, presentRun := 0, latch := true, frozen := true } ∧
      (∀ g, g ≠ f → t.feed g = s.feed g) ∧ t.jobs.map (·.line) = s.jobs.map (·.line) ∧
      (let target (j : Job) : JobState × Option Feed :=
         match j.home, j.station with
         | some h, some i => chosenTarget t h (s.station i).selective
         | _, _ => (j.state, j.current)
       let u : State :=
         { s with
           feeds := t.feeds
           jobs := s.jobs.map fun j =>
             if j.current = some f then
               { j with state := (target j).1, current := (target j).2, phase := none, waitTimer := 0 }
             else j }
       t.jobs =
         if s.jobs.any (fun j => j.current == some f && (j.state == .placed || j.state == .ringing)) then u.pass.jobs
         else u.jobs) ∧
      (∀ j ∈ t.jobs, j.current ≠ some f) ∧
      (∀ (l : Fin 32) (j : Job) (h : Feed) (i : Fin 192), s.job? l = some j → j.current = some f →
        j.home = some h → j.station = some i →
        ∃ j', t.job? l = some j' ∧
          j' = { j with waitTimer := 0, state := j'.state, current := j'.current, phase := j'.phase } ∧
          (if h ≠ f ∧ (s.feed h).state = .good then
            j'.current = some h ∧ (j'.state = .waiting ∨ j'.state = .placed)
           else if (s.station i).selective = false ∧ (s.feed h).fallback = true ∧ f ≠ .fb ∧
              (s.feed .fb).state = .good then
            j'.current = some .fb ∧ (j'.state = .waiting ∨ j'.state = .placed)
           else j'.current = none ∧ j'.state = .suspended) ∧
          (j'.phase.isSome = true ↔ j'.state = .placed)) ∧
      (∀ (l : Fin 32) (j : Job), s.job? l = some j → j.current ≠ some f → j.state ≠ .waiting →
        t.job? l = some j) ∧
      (∀ l, t.line l =
        if ∃ j, s.job? l = some j ∧ j.current = some f then { s.line l with drive := none } else s.line l) ∧
      (∀ q, isPlane q = true → t.port q = if s.inService q = true then received (s.port q) e else s.port q) ∧
      Captures s t (received (s.port .m) e) (t.port .m) .feedFail (some f) none

/-- A generator recovers: GOOD with its latch and freeze left; no job of it stays SUSPENDED, and none stays on FB but a
RINGING one, whose return is then due; FB's own recovery moves no job. A job that moves takes the generator as current feed
and is WAITING or placed by the pass, its wait timer 0 where it was SUSPENDED or PLACED and running on where it was WAITING
on FB. One pass then runs over the pool, and FEED_STATE is posted (R54, R121, R122).
The rows stand for the one feed's sample (log 7); the phase the pass may find at once is log 32's. -/
def Obligations.RecoverySendsJobsHome : Prop :=
  ∀ (s : State) (f : Feed) (c : Instr), s.phase = .run → PoolBounded s → JobsShaped s →
    (c = .feedRecovery f ∧ f ≠ .fb ∨ c = .fbRecovery ∧ f = .fb) → (s.feed f).state = .failed →
    (s.feed f).forcedLoss = false → (s.feed f).presentRun = 499 →
    ∃ t, exec c s = .next t ∧ t = { s with feeds := t.feeds, jobs := t.jobs, ports := t.ports } ∧
      t.feed f = { s.feed f with state := .good, absentRun := 0, presentRun := 0 } ∧
      (∀ g, g ≠ f → t.feed g = s.feed g) ∧ t.jobs.map (·.line) = s.jobs.map (·.line) ∧
      (let home (j : Job) : Job :=
         if j.home ≠ some f then j
         else if j.state = .suspended then { j with state := .waiting, current := some f, waitTimer := 0 }
         else if j.current = some .fb ∧ j.state = .waiting then { j with current := some f }
         else if j.current = some .fb ∧ j.state = .placed then
           { j with state := .waiting, current := some f, phase := none, waitTimer := 0 }
         else j
       t.jobs =
         ({ s with feeds := t.feeds, jobs := if f = .fb then s.jobs else s.jobs.map home } : State).pass.jobs) ∧
      (f ≠ .fb → ∀ j ∈ t.jobs, j.home = some f →
        j.state ≠ .suspended ∧ (j.current = some .fb → j.state = .ringing)) ∧
      (f ≠ .fb → ∀ l j, s.job? l = some j → j.home = some f →
        j.state = .suspended ∨ (j.current = some .fb ∧ (j.state = .waiting ∨ j.state = .placed)) →
        ∃ j', t.job? l = some j' ∧
          j' = { j with current := some f, waitTimer := if j.state = .waiting then j.waitTimer else 0,
                        state := j'.state, phase := j'.phase } ∧
          (j'.state = .waiting ∨ j'.state = .placed) ∧ (j'.phase.isSome = true ↔ j'.state = .placed)) ∧
      (∀ l j, s.job? l = some j → (f = .fb ∨ j.home ≠ some f ∨ j.state = .ringing) → j.state ≠ .waiting →
        t.job? l = some j) ∧
      AllReceive s t
        { kind := .feedState, line := none, party := none, detail := feedCode f ++ BitVec.ofNat 8 0, serial := none,
          stamp := s.stamp }

/-! ### Battery and reference -/

/-- The four steps of R134, each reading judged by the threshold table of the level in force with readings above 800 taken
as 800; the fourth reading of a run changes the level to the run's reach and clears the run (R133, R134). -/
def Obligations.FilterNeedsFourReadings : Prop :=
  ∀ (s : State) (reading low high : Nat) (target : Level) (dir : RunDirection), s.phase = .run →
    (s.battery.level, low, high, target, dir) ∈ thresholds → low ≤ min reading 800 → min reading 800 ≤ high →
    ∃ t, exec (.batteryReading reading) s = .next t ∧
      (dir = .none → t = { s with battery := { s.battery with direction := .none, count := 0, reach := none } }) ∧
      (dir ≠ .none → dir ≠ s.battery.direction →
        t = { s with battery := { s.battery with direction := dir, count := 1, reach := some target } }) ∧
      (dir ≠ .none → dir = s.battery.direction →
        let reach := if s.battery.reach = some .low ∨ target = .low then Level.low else target
        (s.battery.count < 3 →
          t = { s with battery := { s.battery with count := s.battery.count + 1, reach := some reach } }) ∧
        (s.battery.count = 3 →
          t.battery = { level := reach, direction := .none, count := 0, reach := none }))

/-- A level change: the new level is in force, no position of any feed is overloaded and no gated job is placed if that
held before, BATTERY_STATE goes to Port M and every plane in service, and an entry to CRITICAL is captured after it
(R42, R135, R173). Entered CRITICAL sheds every PLACED or RINGING job of class 0 or 1 in arrival order and then each feed,
NORMAL to LOW sheds each feed, a rise sheds nothing, and one pass ends each (R42; what a shed does is said of WRITE_FEED).
The row stands for the reading itself (log 7); that the pass may find a shed job's old phase again is log 32. -/
def Obligations.LevelChangeIsScheduledAndReported : Prop :=
  ∀ (s : State) (reading low high : Nat) (target : Level) (dir : RunDirection), s.phase = .run → PoolBounded s →
    (s.battery.level, low, high, target, dir) ∈ thresholds → low ≤ min reading 800 → min reading 800 ≤ high →
    dir ≠ .none → dir = s.battery.direction → s.battery.count = 3 →
    let new := if s.battery.reach = some .low ∨ target = .low then Level.low else target
    let e : Event :=
      { kind := .batteryState, line := none, party := none, detail := BitVec.ofNat 8 0 ++ levelCode new,
        serial := none, stamp := s.stamp }
    ∃ t, exec (.batteryState reading) s = .next t ∧
      t = { s with battery := { level := new, direction := .none, count := 0, reach := none }, jobs := t.jobs,
                   lines := t.lines, ports := t.ports, faultRecord := t.faultRecord, missed := t.missed } ∧
      t.jobs.map (·.line) = s.jobs.map (·.line) ∧
      (∀ l, t.line l = s.line l ∨ t.line l = { s.line l with drive := none }) ∧
      (let u : State := { s with battery := { level := new, direction := .none, count := 0, reach := none } }
       let low := (s.jobs.filter fun j => (j.state == .placed || j.state == .ringing) && decide (j.cls.val ≤ 1)).map (·.line)
       let feeds : List Feed := [.f1, .f2, .f3, .f4, .fb]
       let v :=
         if new = .critical then feeds.foldl State.shedFeed (low.foldl State.shed u)
         else if new = .low ∧ s.battery.level = .normal then feeds.foldl State.shedFeed u
         else u
       t.jobs = v.pass.jobs ∧ t.lines = v.lines) ∧
      (WithinCapacity s → WithinCapacity t) ∧ GateHolds t ∧
      (∀ q, isPlane q = true → t.port q = if s.inService q = true then received (s.port q) e else s.port q) ∧
      (new ≠ .critical →
        t.port .m = received (s.port .m) e ∧ t.faultRecord = s.faultRecord ∧ t.missed = s.missed) ∧
      (new = .critical → Captures s t (received (s.port .m) e) (t.port .m) .batteryCritical none none)

/-- The reference: a gap of 1 ms while PRESENT loses it, with REFERENCE_STATE(LOST) and then the capture; while LOST the
first edge starts the restore run (and an edge that comes after such a gap is that first edge), an edge within 250 µs continues it, a longer gap starts it again, and at 100 ms the
reference is restored. No count, frame, phase or timer changes (R139, R140; gaps in microseconds by log 19). -/
def Obligations.ReferenceIsLostAndRestored : Prop :=
  ∀ (s : State) (gap : Nat), s.phase = .run →
    let lost : Event :=
      { kind := .referenceState, line := none, party := none, detail := 1, serial := none, stamp := s.stamp }
    (s.reference.state = .present →
      (gap < 1000 → exec (.referenceEdge gap) s = .next s) ∧
      (1000 ≤ gap →
        ∃ t, exec (.referenceEdge gap) s = .next t ∧
          t = { s with reference := { state := .lost, restoreRun := 0, runOpen := true }, ports := t.ports,
                       faultRecord := t.faultRecord, missed := t.missed } ∧
          (∀ q, isPlane q = true →
            t.port q = if s.inService q = true then received (s.port q) lost else s.port q) ∧
          Captures s t (received (s.port .m) lost) (t.port .m) .referenceLost none none) ∧
      ∃ t, exec .referenceLost s = .next t ∧
        t = { s with reference := { state := .lost, restoreRun := 0, runOpen := false }, ports := t.ports,
                     faultRecord := t.faultRecord, missed := t.missed } ∧
        (∀ q, isPlane q = true → t.port q = if s.inService q = true then received (s.port q) lost else s.port q) ∧
        Captures s t (received (s.port .m) lost) (t.port .m) .referenceLost none none) ∧
    (s.reference.state = .lost →
      (s.reference.runOpen = false ∨ 250 < gap →
        exec (.referenceEdge gap) s =
          .next { s with reference := { s.reference with restoreRun := 0, runOpen := true } }) ∧
      (s.reference.runOpen = true → gap ≤ 250 → s.reference.restoreRun + gap < 100000 →
        exec (.referenceEdge gap) s =
          .next { s with reference := { s.reference with restoreRun := s.reference.restoreRun + gap } }) ∧
      (s.reference.runOpen = true → gap ≤ 250 → 100000 ≤ s.reference.restoreRun + gap →
        ∃ t, exec (.referenceRestored gap) s = .next t ∧ exec (.referenceEdge gap) s = .next t ∧
          t = { s with reference := { state := .present, restoreRun := 0, runOpen := false }, ports := t.ports } ∧
          AllReceive s t
            { kind := .referenceState, line := none, party := none, detail := 0, serial := none, stamp := s.stamp }))

/-! ### Resets, start-up and SAVE -/

/-- Every kind of reset enters HOLD with everything in flight ended and every record at its value after a reset; it keeps
or empties the fault record and changes the cause set as its row says, and keeps the configuration memory where no SAVE is
in flight (R8, R143, R170, R176, R178, R179). A commanded reset takes effect when the response to RESET has been sent.
The configuration tables in HOLD are log 1's, the source held until LOAD log 3's, the dropped findings log 9's, a cut SAVE
log 14's, when a commanded reset is due log 20's, the receivers' other fields log 25's, the free counter log 27's, and that
a reset in LOAD falls after what LOAD did log 33's. -/
def Obligations.ResetsEnterHold : Prop :=
  ∀ s : State,
    let after (t : State) (causes : Causes) : Prop :=
      t = { State.reset with
            faultRecord := t.faultRecord, missed := t.missed, causes := causes, source := s.source, image := t.image,
            freeCount := t.freeCount, pending := s.pending } ∧
      (s.save = none → t.image = s.image) ∧
      ∀ v, s.save = some v → ∃ n, t.image = v.written n
    (∃ t, exec .powerOnReset s = .next t ∧
      after t { power := true, supply := false, pin := false, commanded := false } ∧
      t.faultRecord = none ∧ t.missed = .empty) ∧
    (∃ t, exec .supplyDip s = .next t ∧
      after t { power := s.causes.power, supply := true, pin := false, commanded := false } ∧
      t.faultRecord = none ∧ t.missed = .empty) ∧
    (∃ t, exec .resetPin s = .next t ∧ after t { s.causes with pin := true } ∧
      t.faultRecord = s.faultRecord ∧ t.missed = s.missed) ∧
    (s.resetStage = .due →
      ∃ t, exec .commandedReset s = .next t ∧
        after t { s.causes with commanded := true } ∧ t.faultRecord = s.faultRecord ∧ t.missed = s.missed)

/-- What the part holds right after a power-on reset (R8, R29, R45, R73, R92, R117, R132, R138, R143, R157, R160, R170,
R178, R179).
No finding is held then by log 9, no plane is marked as taken over by log 31; the free counter is log 27's. -/
def Obligations.StateAfterPowerOn : Prop :=
  let s := State.reset
  s.phase = .hold ∧ s.pos = 0 ∧ s.stamp = 0 ∧ s.jobs = [] ∧ s.reverts = [] ∧ s.findings = [] ∧
  s.battery = { level := .normal, direction := .none, count := 0, reach := none } ∧
  s.reference.state = .present ∧ s.reference.restoreRun = 0 ∧
  s.serviceA = .outOfService ∧ s.serviceB = .outOfService ∧ s.faultRecord = none ∧
  s.missed = .empty ∧ s.causes = { power := true, supply := false, pin := false, commanded := false } ∧
  s.save = none ∧ s.heldCapture = false ∧ s.takenOver = none ∧ s.pending = [] ∧
  (∀ l, (s.line l).supervision = .unscanned ∧ (s.line l).parked = false ∧ (s.line l).owner = none ∧
    (s.line l).serial = 0 ∧ (s.line l).drive = none ∧
    (s.line l).scan = { runCount := 0, view := .clear, samples := 0, tripRun := 0, mismatchRun := 0 }) ∧
  (∀ f, (s.feed f).state = .good ∧ (s.feed f).absentRun = 0 ∧ (s.feed f).presentRun = 0 ∧
    (s.feed f).latch = false ∧ (s.feed f).forcedLoss = false ∧ (s.feed f).lastBurst = none ∧
    (s.feed f).frozen = false) ∧
  ∀ p, (s.port p).queue = [] ∧ (s.port p).overflow = false ∧ (s.port p).buffer = none ∧
    (s.port p).response = none ∧ (s.port p).receiver.state = .hunt ∧ (s.port p).receiver.count = 0

/-- LOAD of an invalid image, or of one whose needed bytes the memory does not answer: source DEFAULTS, every record at its
default, and IMAGE_INVALID captured with stamp 0. An EMPTY record takes it, its event held until RUN, and a FULL one adds it
to the missed kinds; no event is posted in LOAD (R21, R25, R116, R171, R172, R176, R177, R180). -/
def Obligations.LoadOfAnInvalidImage : Prop :=
  ∀ (s : State) (silent : List Nat), s.phase = .hold →
    (Memory.read s.image 0 ≠ 0x5A ∨ Memory.read s.image 1 ≠ 0x3C ∨ Memory.read s.image 2 ≠ 1 ∨
      Memory.read s.image 4 ≠ 0x04 ∨ Memory.read s.image 5 ≠ 0x6D ∨
      (Memory.read s.image 6).toNat * 256 + (Memory.read s.image 7).toNat ≠
        (((List.range 1125).map fun i => (Memory.read s.image (8 + i)).toNat).sum) % 65536 ∨
      ∃ a ∈ silent, a < 1133 ∧ a ≠ 3) →
    ∃ t, exec (.load silent) s = .next t ∧
      t = { s with phase := .load, source := .defaults, lines := t.lines, stations := t.stations,
                   patterns := t.patterns, feeds := t.feeds, policy := .byClass, faultRecord := t.faultRecord,
                   missed := t.missed, heldCapture := s.faultRecord.isNone } ∧
      (s.faultRecord = none → t.missed = s.missed ∧
        t.faultRecord = some { kind := .imageInvalid, feed := none, line := none, stamp := 0 }) ∧
      (∀ record, s.faultRecord = some record →
        t.faultRecord = some record ∧ t.missed = { s.missed with imageInvalid := true }) ∧
      (∀ l, (t.line l).desc =
        { admin := .disabled, base := 0, count := 0, allowance := 0, frameLimit := 10, guarded := false }) ∧
      (∀ i, t.station i =
        { enabled := false, home := .f1, side := .loop, pattern := 0, load := 10, selective := false,
          guarded := false }) ∧
      (∀ k, (t.pattern k).bursts =
        if k = 1 then [⟨4, 4⟩, ⟨4, 48⟩] else if k = 2 then [⟨10, 4⟩, ⟨4, 42⟩]
        else if k = 3 then [⟨4, 4⟩, ⟨4, 4⟩, ⟨4, 40⟩] else if k = 4 then [⟨10, 4⟩, ⟨10, 36⟩] else [⟨20, 40⟩]) ∧
      (∀ f, (t.feed f).freq = 1 ∧ (t.feed f).capacity = 0 ∧ (t.feed f).fallback = false ∧
        (t.feed f).state = .good)

/-- LOAD of a memory that holds what a SAVE writes gives back every line descriptor, a FAULTED one as ENABLED, every
station, pattern and feed record and the policy, with source IMAGE and no fault (R22, R25, R116, R177, R180, R182, R189).
LOAD of any valid image takes each record as the layout of R189 gives it, with the replacements of R22, R25, R33 and R116:
a line by its own bytes and the earlier lines that were accepted, a limit, a ringer load or a capacity above its range at the
top of it, patterns and feeds only under their section flags, and the policy by R49. Nothing is captured or posted.
Section flags whose byte the memory does not answer are a free value (log 13). -/
def Obligations.LoadRestoresWhatSaveWrote : Prop :=
  (∀ s u : State, RecordsInRange s → RangesDisjoint s → u.phase = .hold →
     (∀ a, a < 1133 → Memory.read u.image a = s.imageBytes.getD a 0) →
     ∃ t, exec (.load []) u = .next t ∧ t.phase = .load ∧ t.source = .image ∧ t.faultRecord = u.faultRecord ∧
       t.missed = u.missed ∧ t.heldCapture = false ∧ t.image = u.image ∧
       (∀ l, (t.line l).desc =
         { (s.line l).desc with
           admin := if (s.line l).desc.admin = .faulted then .enabled else (s.line l).desc.admin }) ∧
       (∀ i, t.station i = s.station i) ∧ (∀ k, t.pattern k = s.pattern k) ∧
       (∀ f, (t.feed f).freq = (s.feed f).freq ∧ (t.feed f).capacity = (s.feed f).capacity ∧
         (t.feed f).fallback = (s.feed f).fallback) ∧
       t.policy = s.policy) ∧
  ∀ (s : State) (silent : List Nat), s.phase = .hold →
    Memory.read s.image 0 = 0x5A → Memory.read s.image 1 = 0x3C → Memory.read s.image 2 = 1 →
    Memory.read s.image 4 = 0x04 → Memory.read s.image 5 = 0x6D →
    (Memory.read s.image 6).toNat * 256 + (Memory.read s.image 7).toNat =
      (((List.range 1125).map fun i => (Memory.read s.image (8 + i)).toNat).sum) % 65536 →
    (∀ a ∈ silent, a < 1133 → a = 3) →
    let byte (a : Nat) : Byte := Memory.read s.image a
    let value (a : Nat) : Nat := (byte a).toNat
    ∃ (t : State) (flags : Byte), exec (.load silent) s = .next t ∧ (3 ∉ silent → flags = byte 3) ∧
      t = { s with phase := .load, source := .image, heldCapture := false, lines := t.lines, stations := t.stations,
                   patterns := t.patterns, feeds := t.feeds,
                   policy := if byte 1132 = 1 then .byArrival else .byClass,
                   freeCount := if 3 ∈ silent then s.freeCount + 1 else s.freeCount } ∧
      (∀ l : Fin 32,
        let a := 8 + 6 * l.val
        let clashes := ∃ k : Fin 32, k < l ∧ 0 < value (a + 2) ∧ 0 < (t.line k).desc.count ∧
          value (a + 1) < (t.line k).desc.base.val + (t.line k).desc.count ∧
          (t.line k).desc.base.val < value (a + 1) + value (a + 2)
        let replaced := 1 < value a ∨ 191 < value (a + 1) ∨ 8 < value (a + 2) ∨ 30 < value (a + 3) ∨
          value (a + 4) = 0 ∨ 192 < value (a + 1) + value (a + 2) ∨ (value a = 1 ∧ value (a + 2) = 0) ∨ clashes
        let d := (t.line l).desc
        (replaced →
          d = { admin := .disabled, base := 0, count := 0, allowance := 0, frameLimit := 10, guarded := false }) ∧
        (¬replaced →
          d.admin = (if value a = 1 then .enabled else .disabled) ∧ d.base.val = value (a + 1) ∧
          d.count = value (a + 2) ∧ d.allowance = value (a + 3) ∧ d.frameLimit = min (value (a + 4)) 60 ∧
          d.guarded = (byte (a + 5) != 0))) ∧
      (∀ i : Fin 192,
        let a := 200 + 4 * i.val
        let replaced := 3 < value (a + 1) % 16 ∨ 2 < value (a + 1) / 16 ∨ 15 < value (a + 2) ∨ value (a + 3) = 0
        let x := t.station i
        (replaced →
          x = { enabled := false, home := .f1, side := .loop, pattern := 0, load := 10, selective := false,
                guarded := false }) ∧
        (¬replaced →
          x.enabled = (value a % 2 == 1) ∧ x.selective = (value a / 2 % 2 == 1) ∧
          x.guarded = (value a / 4 % 2 == 1) ∧ (feedCode x.home).toNat = value (a + 1) % 16 ∧
          (sideCode x.side).toNat = value (a + 1) / 16 ∧ x.pattern.val = value (a + 2) ∧
          x.load = min (value (a + 3)) 50)) ∧
      (∀ k : Fin 16,
        let a := 968 + 9 * k.val
        let bursts := (List.range (value a)).map fun n => Burst.mk (value (a + 1 + 2 * n)) (value (a + 2 + 2 * n))
        let default : List Burst :=
          if k = 1 then [⟨4, 4⟩, ⟨4, 48⟩] else if k = 2 then [⟨10, 4⟩, ⟨4, 42⟩]
          else if k = 3 then [⟨4, 4⟩, ⟨4, 4⟩, ⟨4, 40⟩] else if k = 4 then [⟨10, 4⟩, ⟨10, 36⟩] else [⟨20, 40⟩]
        let taken := flags.getLsbD 0 = true ∧ 1 ≤ value a ∧ value a ≤ 4 ∧
          (∀ b ∈ bursts, 2 ≤ b.on ∧ b.on ≤ 20 ∧ b.off ≤ 58) ∧ (bursts.map fun b => b.on + b.off).sum ≤ 60 ∧
          (bursts.map (·.on)).sum ≤ 30
        (taken → (t.pattern k).bursts = bursts) ∧ (¬taken → (t.pattern k).bursts = default)) ∧
      ∀ f : Feed,
        let a := 1112 + 4 * (feedCode f).toNat
        let x := t.feed f
        x.state = .good ∧
        (flags.getLsbD 1 = true →
          x.freq = (if value a ≤ 5 then value a else 1) ∧
          x.capacity = min (value (a + 1) * 256 + value (a + 2)) (if f = .fb then 200 else 600) ∧
          x.fallback = (f != .fb && byte (a + 3) != 0)) ∧
        (flags.getLsbD 1 = false → x.freq = 1 ∧ x.capacity = 0 ∧ x.fallback = false)

/-- RUN: position and stamp 0, every ENABLED line restarted at ON_HOOK, START to Port M with the source and the cause set;
then, where this LOAD filled the fault record with IMAGE_INVALID, its FAULT_CAPTURED with stamp 0. The record and the missed
kinds stay as LOAD left them (R31, R89, R176, R181; the findings a restart drops by log 9). -/
def Obligations.RunBeginsWithStart : Prop :=
  ∀ s : State, s.phase = .load → (s.port .m).queue = [] →
    let start : Event :=
      { kind := .start, line := none, party := none, detail := sourceCode s.source ++ causeByte s.causes,
        serial := none, stamp := 0 }
    let invalid : Event :=
      { kind := .faultCaptured, line := none, party := none, detail := 0x02FF, serial := none, stamp := 0 }
    ∃ t, exec .run s = .next t ∧
      t = { s with phase := .run, pos := 0, stamp := 0, lines := t.lines, findings := t.findings, ports := t.ports,
                   heldCapture := false } ∧
      (∀ l, t.line l =
        if (s.line l).desc.admin = .enabled then
          { s.line l with
            supervision := .onHook, parked := false
            scan := { runCount := 0, view := .clear, samples := 0, tripRun := 0, mismatchRun := 0 } }
        else s.line l) ∧
      (t.port .m).overflow = (s.port .m).overflow ∧
      (t.port .m).queue = (if s.heldCapture = true then [start, invalid] else [start]) ∧
      ∀ q, q ≠ .m → t.port q = s.port q

/-- A SAVE succeeds where the memory acknowledges every write, answers every read and every byte reads as written: every
byte of the image is then the contents fixed at acceptance, and SAVE_DONE(OK) goes to Port M. It fails where a write or a
read is not acknowledged or one comparison disagrees: SAVE_DONE(FAILED) is posted, SAVE_FAILED captured, and the
configuration held is unchanged. A failed SAVE leaves no valid image where the memory had acknowledged the first clear of
the signature and, if the failure is the signature's own, the second (R171, R173, R183).
How the memory behaved is the operand of SAVE_DONE (log 15). -/
def Obligations.SaveEndsAsTheMemoryAnswered : Prop :=
  ∀ (s : State) (v : SaveInFlight) (r : SaveReport), s.save = some v → (∀ c ∈ r.garbled, c.1 < 1133) →
    let written (a : Nat) : Byte := if a = 0 then 0x5A else if a = 1 then 0x3C else v.contents.getD a 0
    let reads (a : Nat) : Prop :=
      ∀ c, (r.garbled.filter fun c => c.1 == a).getLast? = some c → c.2 = written a
    let bodyHolds := 1132 ≤ r.acks ∧ r.answers = true ∧ ∀ a, 2 ≤ a → a < 1133 → reads a
    let holds := bodyHolds ∧ r.signatureAnswers = true ∧ reads 0 ∧ reads 1
    let done (result : BitVec 16) : Event :=
      { kind := .saveDone, line := none, party := none, detail := result, serial := none, stamp := s.stamp }
    (holds →
      ∃ t, exec (.saveDone r) s = .next t ∧ t = { s with image := t.image, save := none, ports := t.ports } ∧
        (∀ a, a < 1133 → Memory.read t.image a = written a) ∧
        (∀ u : State, v.contents = u.imageBytes →
          imageValid t.image = true ∧ ∀ a, a < 1133 → Memory.read t.image a = u.imageBytes.getD a 0) ∧
        OneReceives s t .m (done 0)) ∧
    (¬holds →
      ∃ t, exec (.saveDone r) s = .next t ∧
        t = { s with image := t.image, save := none, ports := t.ports, faultRecord := t.faultRecord,
                     missed := t.missed } ∧
        (∀ q, q ≠ .m → t.port q = s.port q) ∧
        Captures s t (received (s.port .m) (done 1)) (t.port .m) .saveFailed none none ∧
        (1 ≤ r.acks → ¬bodyHolds ∨ r.clearsAgain = true → imageValid t.image = false))

/-- Only a SAVE_DONE whose report names a byte outside the image stops the part; every other command, in every state,
answers a next state (log 26). -/
def Obligations.OnlyAnIllFormedReportStops : Prop :=
  ∀ (s : State) (c : Instr),
    (∃ t, exec c s = .next t) ∨
    ∃ (r : SaveReport) (a : Nat), c = .saveDone r ∧ 1133 ≤ a ∧ (∃ x ∈ r.garbled, x.1 = a) ∧ s.save.isSome = true ∧
      exec c s = .fault (.outsideImage a)

/-! ### What every step keeps -/

/-- The configuration memory, and the copy a SAVE in flight keeps of it, keep their canonical form (log 2). -/
def Obligations.StepKeepsMemoryCanonical : Prop :=
  ∀ s t : State, MemoryCanonical s → step s = .next t →
    MemoryCanonical t

/-- No event queue ever holds more than 32 events, and a plane out of service has an empty queue, a clear flag and no line.
A line with a job or revert is bound to its owner, and a bound line is not parked, so that every event for an owner has a
recipient. A plane that a TAKEOVER has put out of service stays so until it opens. The missed-kind set is empty whenever
the fault record is, and a FAULT_CAPTURED is held in LOAD alone, for a
record that holds IMAGE_INVALID (R93, R148, R149, R153, R155, R166, R170, R176, R178).
What a line's waiting findings mean for its work is log 30: `FindingsMatch` and `WorkMatchesTheHook` carry it. -/
def Obligations.StepKeepsQueuesAndService : Prop :=
  ∀ s t : State,
    QueuesBounded s ∧ OutOfServiceQuiet s ∧ TakenOverIsOut s ∧ MissedNeedARecord s ∧ CaptureHeldInLoad s ∧
      WorkOnlyInRun s ∧ RevertsPaired s ∧ EnabledScanned s ∧ FindingsMatch s ∧ WorkMatchesTheHook s ∧ LinesBound s →
    step s = .next t →
    QueuesBounded t ∧ OutOfServiceQuiet t ∧ TakenOverIsOut t ∧ MissedNeedARecord t ∧ CaptureHeldInLoad t ∧
      FindingsMatch t ∧ WorkMatchesTheHook t ∧ LinesBound t

/-- The pool never holds more than 24 jobs nor two for one line, the revert table never more than 8 records nor two for
one line; reverts and revert jobs come in pairs, none exists outside RUN, a revert's parties have stations, and every job
holds what R50 gives its state. Frames rung stay below the limit, the wait and hang-up timers below 300, the shed count at
most 255, and every run a monitor counts below the number that ends it (R41, R45, R46, R50, R59, R61, R73, R92, R93, R96,
R98, R178). Outside RUN no finding waits either (log 9). -/
def Obligations.StepKeepsJobsAndReverts : Prop :=
  ∀ s t : State,
    PoolBounded s ∧ RevertsBounded s ∧ WorkOnlyInRun s ∧ RevertsPaired s ∧ RevertsNameStations s ∧ JobsShaped s ∧
      RecordsInRange s ∧ CountsInRange s ∧ RunsInRange s →
    step s = .next t →
    PoolBounded t ∧ RevertsBounded t ∧ WorkOnlyInRun t ∧ RevertsPaired t ∧ RevertsNameStations t ∧ JobsShaped t ∧
      CountsInRange t ∧ RunsInRange t

/-- The load placed on a feed never exceeds its effective capacity (R35), while the battery level is CRITICAL no job of
class 0 or 1 is PLACED or RINGING (R39), and no job stands on a FAILED feed (R131). -/
def Obligations.StepKeepsCapacityAndGate : Prop :=
  ∀ s t : State,
    PoolBounded s ∧ WorkOnlyInRun s ∧ JobsShaped s ∧ WithinCapacity s ∧ GateHolds s ∧ NoJobOnFailedFeed s →
    step s = .next t →
    WithinCapacity t ∧ GateHolds t ∧ NoJobOnFailedFeed t

/-- A line's relay drive is set only while its job is RINGING, and names the job's current feed and its station's side. A job
that holds a station holds its party's, and its copies agree with the record as long as they are in use (R4, R10, R16, R46,
R57). -/
def Obligations.StepKeepsDriveOnlyRinging : Prop :=
  ∀ s t : State,
    PoolBounded s ∧ RevertsBounded s ∧ RevertsPaired s ∧ RevertsNameStations s ∧ WorkOnlyInRun s ∧ JobsShaped s ∧
      RangesDisjoint s ∧ CopiesAgree s ∧ DriveOnlyRinging s →
    step s = .next t → CopiesAgree t ∧ DriveOnlyRinging t

/-- Station ranges never overlap and lie within the pool, every configuration record stays within its ranges, and a
DISABLED line has no binding, no job, no revert and no parked flag and is UNSCANNED, while an ENABLED one is scanned in RUN
(R3, R5, R7, R10, R23, R33, R89, R116). -/
def Obligations.StepKeepsTheConfiguration : Prop :=
  ∀ s t : State, WorkOnlyInRun s ∧ DisabledIdle s ∧ EnabledScanned s ∧ RangesDisjoint s ∧ RecordsInRange s →
    step s = .next t → DisabledIdle t ∧ EnabledScanned t ∧ RangesDisjoint t ∧ RecordsInRange t

/-- The part right after a power-on reset keeps every promise that its steps keep.
What the configuration tables hold before LOAD is log 1's choice, and what unwritten memory reads as log 2's. -/
def Obligations.ResetKeepsEveryPromise : Prop :=
  let s := State.reset
  MemoryCanonical s ∧ QueuesBounded s ∧ PoolBounded s ∧ RevertsBounded s ∧ WorkOnlyInRun s ∧ RevertsPaired s ∧
  RevertsNameStations s ∧ JobsShaped s ∧ WithinCapacity s ∧ GateHolds s ∧ DriveOnlyRinging s ∧
  OutOfServiceQuiet s ∧ DisabledIdle s ∧ EnabledScanned s ∧ RangesDisjoint s ∧ RecordsInRange s ∧ MissedNeedARecord s ∧
  CaptureHeldInLoad s ∧ TakenOverIsOut s ∧ CopiesAgree s ∧
  FindingsMatch s ∧ WorkMatchesTheHook s ∧ LinesBound s ∧ CountsInRange s ∧ RunsInRange s ∧ NoJobOnFailedFeed s
end

