-- ==== Sys2Proof/Laws/State.lean ====
section
/-! SUPPORT. One lemma for each field that an update of the state leaves as it was, so that no proof unfolds a record
update. -/

namespace Sys2Proof.Machine

variable (s : State)

/-! ### modLine -/

@[simp] theorem State.modLine_phase (l : Fin 32) (g : Line → Line) : (s.modLine l g).phase = s.phase := rfl
@[simp] theorem State.modLine_pos (l : Fin 32) (g : Line → Line) : (s.modLine l g).pos = s.pos := rfl
@[simp] theorem State.modLine_stamp (l : Fin 32) (g : Line → Line) : (s.modLine l g).stamp = s.stamp := rfl
@[simp] theorem State.modLine_stations (l : Fin 32) (g : Line → Line) : (s.modLine l g).stations = s.stations := rfl
@[simp] theorem State.modLine_patterns (l : Fin 32) (g : Line → Line) : (s.modLine l g).patterns = s.patterns := rfl
@[simp] theorem State.modLine_feeds (l : Fin 32) (g : Line → Line) : (s.modLine l g).feeds = s.feeds := rfl
@[simp] theorem State.modLine_policy (l : Fin 32) (g : Line → Line) : (s.modLine l g).policy = s.policy := rfl
@[simp] theorem State.modLine_jobs (l : Fin 32) (g : Line → Line) : (s.modLine l g).jobs = s.jobs := rfl
@[simp] theorem State.modLine_reverts (l : Fin 32) (g : Line → Line) : (s.modLine l g).reverts = s.reverts := rfl
@[simp] theorem State.modLine_findings (l : Fin 32) (g : Line → Line) : (s.modLine l g).findings = s.findings := rfl
@[simp] theorem State.modLine_battery (l : Fin 32) (g : Line → Line) : (s.modLine l g).battery = s.battery := rfl
@[simp] theorem State.modLine_reference (l : Fin 32) (g : Line → Line) : (s.modLine l g).reference = s.reference := rfl
@[simp] theorem State.modLine_serviceA (l : Fin 32) (g : Line → Line) : (s.modLine l g).serviceA = s.serviceA := rfl
@[simp] theorem State.modLine_serviceB (l : Fin 32) (g : Line → Line) : (s.modLine l g).serviceB = s.serviceB := rfl
@[simp] theorem State.modLine_ports (l : Fin 32) (g : Line → Line) : (s.modLine l g).ports = s.ports := rfl
@[simp] theorem State.modLine_faultRecord (l : Fin 32) (g : Line → Line) : (s.modLine l g).faultRecord = s.faultRecord := rfl
@[simp] theorem State.modLine_missed (l : Fin 32) (g : Line → Line) : (s.modLine l g).missed = s.missed := rfl
@[simp] theorem State.modLine_causes (l : Fin 32) (g : Line → Line) : (s.modLine l g).causes = s.causes := rfl
@[simp] theorem State.modLine_source (l : Fin 32) (g : Line → Line) : (s.modLine l g).source = s.source := rfl
@[simp] theorem State.modLine_takenOver (l : Fin 32) (g : Line → Line) : (s.modLine l g).takenOver = s.takenOver := rfl
@[simp] theorem State.modLine_heldCapture (l : Fin 32) (g : Line → Line) : (s.modLine l g).heldCapture = s.heldCapture := rfl
@[simp] theorem State.modLine_resetStage (l : Fin 32) (g : Line → Line) : (s.modLine l g).resetStage = s.resetStage := rfl
@[simp] theorem State.modLine_image (l : Fin 32) (g : Line → Line) : (s.modLine l g).image = s.image := rfl
@[simp] theorem State.modLine_save (l : Fin 32) (g : Line → Line) : (s.modLine l g).save = s.save := rfl
@[simp] theorem State.modLine_freeCount (l : Fin 32) (g : Line → Line) : (s.modLine l g).freeCount = s.freeCount := rfl
@[simp] theorem State.modLine_pending (l : Fin 32) (g : Line → Line) : (s.modLine l g).pending = s.pending := rfl

/-! ### setStation -/

@[simp] theorem State.setStation_phase (i : Fin 192) (x : Station) : (s.setStation i x).phase = s.phase := rfl
@[simp] theorem State.setStation_pos (i : Fin 192) (x : Station) : (s.setStation i x).pos = s.pos := rfl
@[simp] theorem State.setStation_stamp (i : Fin 192) (x : Station) : (s.setStation i x).stamp = s.stamp := rfl
@[simp] theorem State.setStation_lines (i : Fin 192) (x : Station) : (s.setStation i x).lines = s.lines := rfl
@[simp] theorem State.setStation_patterns (i : Fin 192) (x : Station) : (s.setStation i x).patterns = s.patterns := rfl
@[simp] theorem State.setStation_feeds (i : Fin 192) (x : Station) : (s.setStation i x).feeds = s.feeds := rfl
@[simp] theorem State.setStation_policy (i : Fin 192) (x : Station) : (s.setStation i x).policy = s.policy := rfl
@[simp] theorem State.setStation_jobs (i : Fin 192) (x : Station) : (s.setStation i x).jobs = s.jobs := rfl
@[simp] theorem State.setStation_reverts (i : Fin 192) (x : Station) : (s.setStation i x).reverts = s.reverts := rfl
@[simp] theorem State.setStation_findings (i : Fin 192) (x : Station) : (s.setStation i x).findings = s.findings := rfl
@[simp] theorem State.setStation_battery (i : Fin 192) (x : Station) : (s.setStation i x).battery = s.battery := rfl
@[simp] theorem State.setStation_reference (i : Fin 192) (x : Station) : (s.setStation i x).reference = s.reference := rfl
@[simp] theorem State.setStation_serviceA (i : Fin 192) (x : Station) : (s.setStation i x).serviceA = s.serviceA := rfl
@[simp] theorem State.setStation_serviceB (i : Fin 192) (x : Station) : (s.setStation i x).serviceB = s.serviceB := rfl
@[simp] theorem State.setStation_ports (i : Fin 192) (x : Station) : (s.setStation i x).ports = s.ports := rfl
@[simp] theorem State.setStation_faultRecord (i : Fin 192) (x : Station) : (s.setStation i x).faultRecord = s.faultRecord := rfl
@[simp] theorem State.setStation_missed (i : Fin 192) (x : Station) : (s.setStation i x).missed = s.missed := rfl
@[simp] theorem State.setStation_causes (i : Fin 192) (x : Station) : (s.setStation i x).causes = s.causes := rfl
@[simp] theorem State.setStation_source (i : Fin 192) (x : Station) : (s.setStation i x).source = s.source := rfl
@[simp] theorem State.setStation_takenOver (i : Fin 192) (x : Station) : (s.setStation i x).takenOver = s.takenOver := rfl
@[simp] theorem State.setStation_heldCapture (i : Fin 192) (x : Station) : (s.setStation i x).heldCapture = s.heldCapture := rfl
@[simp] theorem State.setStation_resetStage (i : Fin 192) (x : Station) : (s.setStation i x).resetStage = s.resetStage := rfl
@[simp] theorem State.setStation_image (i : Fin 192) (x : Station) : (s.setStation i x).image = s.image := rfl
@[simp] theorem State.setStation_save (i : Fin 192) (x : Station) : (s.setStation i x).save = s.save := rfl
@[simp] theorem State.setStation_freeCount (i : Fin 192) (x : Station) : (s.setStation i x).freeCount = s.freeCount := rfl
@[simp] theorem State.setStation_pending (i : Fin 192) (x : Station) : (s.setStation i x).pending = s.pending := rfl

/-! ### setPattern -/

@[simp] theorem State.setPattern_phase (k : Fin 16) (x : Pattern) : (s.setPattern k x).phase = s.phase := rfl
@[simp] theorem State.setPattern_pos (k : Fin 16) (x : Pattern) : (s.setPattern k x).pos = s.pos := rfl
@[simp] theorem State.setPattern_stamp (k : Fin 16) (x : Pattern) : (s.setPattern k x).stamp = s.stamp := rfl
@[simp] theorem State.setPattern_lines (k : Fin 16) (x : Pattern) : (s.setPattern k x).lines = s.lines := rfl
@[simp] theorem State.setPattern_stations (k : Fin 16) (x : Pattern) : (s.setPattern k x).stations = s.stations := rfl
@[simp] theorem State.setPattern_feeds (k : Fin 16) (x : Pattern) : (s.setPattern k x).feeds = s.feeds := rfl
@[simp] theorem State.setPattern_policy (k : Fin 16) (x : Pattern) : (s.setPattern k x).policy = s.policy := rfl
@[simp] theorem State.setPattern_jobs (k : Fin 16) (x : Pattern) : (s.setPattern k x).jobs = s.jobs := rfl
@[simp] theorem State.setPattern_reverts (k : Fin 16) (x : Pattern) : (s.setPattern k x).reverts = s.reverts := rfl
@[simp] theorem State.setPattern_findings (k : Fin 16) (x : Pattern) : (s.setPattern k x).findings = s.findings := rfl
@[simp] theorem State.setPattern_battery (k : Fin 16) (x : Pattern) : (s.setPattern k x).battery = s.battery := rfl
@[simp] theorem State.setPattern_reference (k : Fin 16) (x : Pattern) : (s.setPattern k x).reference = s.reference := rfl
@[simp] theorem State.setPattern_serviceA (k : Fin 16) (x : Pattern) : (s.setPattern k x).serviceA = s.serviceA := rfl
@[simp] theorem State.setPattern_serviceB (k : Fin 16) (x : Pattern) : (s.setPattern k x).serviceB = s.serviceB := rfl
@[simp] theorem State.setPattern_ports (k : Fin 16) (x : Pattern) : (s.setPattern k x).ports = s.ports := rfl
@[simp] theorem State.setPattern_faultRecord (k : Fin 16) (x : Pattern) : (s.setPattern k x).faultRecord = s.faultRecord := rfl
@[simp] theorem State.setPattern_missed (k : Fin 16) (x : Pattern) : (s.setPattern k x).missed = s.missed := rfl
@[simp] theorem State.setPattern_causes (k : Fin 16) (x : Pattern) : (s.setPattern k x).causes = s.causes := rfl
@[simp] theorem State.setPattern_source (k : Fin 16) (x : Pattern) : (s.setPattern k x).source = s.source := rfl
@[simp] theorem State.setPattern_takenOver (k : Fin 16) (x : Pattern) : (s.setPattern k x).takenOver = s.takenOver := rfl
@[simp] theorem State.setPattern_heldCapture (k : Fin 16) (x : Pattern) : (s.setPattern k x).heldCapture = s.heldCapture := rfl
@[simp] theorem State.setPattern_resetStage (k : Fin 16) (x : Pattern) : (s.setPattern k x).resetStage = s.resetStage := rfl
@[simp] theorem State.setPattern_image (k : Fin 16) (x : Pattern) : (s.setPattern k x).image = s.image := rfl
@[simp] theorem State.setPattern_save (k : Fin 16) (x : Pattern) : (s.setPattern k x).save = s.save := rfl
@[simp] theorem State.setPattern_freeCount (k : Fin 16) (x : Pattern) : (s.setPattern k x).freeCount = s.freeCount := rfl
@[simp] theorem State.setPattern_pending (k : Fin 16) (x : Pattern) : (s.setPattern k x).pending = s.pending := rfl

/-! ### modFeed -/

@[simp] theorem State.modFeed_phase (f : Feed) (g : FeedRecord → FeedRecord) : (s.modFeed f g).phase = s.phase := rfl
@[simp] theorem State.modFeed_pos (f : Feed) (g : FeedRecord → FeedRecord) : (s.modFeed f g).pos = s.pos := rfl
@[simp] theorem State.modFeed_stamp (f : Feed) (g : FeedRecord → FeedRecord) : (s.modFeed f g).stamp = s.stamp := rfl
@[simp] theorem State.modFeed_lines (f : Feed) (g : FeedRecord → FeedRecord) : (s.modFeed f g).lines = s.lines := rfl
@[simp] theorem State.modFeed_stations (f : Feed) (g : FeedRecord → FeedRecord) : (s.modFeed f g).stations = s.stations := rfl
@[simp] theorem State.modFeed_patterns (f : Feed) (g : FeedRecord → FeedRecord) : (s.modFeed f g).patterns = s.patterns := rfl
@[simp] theorem State.modFeed_policy (f : Feed) (g : FeedRecord → FeedRecord) : (s.modFeed f g).policy = s.policy := rfl
@[simp] theorem State.modFeed_jobs (f : Feed) (g : FeedRecord → FeedRecord) : (s.modFeed f g).jobs = s.jobs := rfl
@[simp] theorem State.modFeed_reverts (f : Feed) (g : FeedRecord → FeedRecord) : (s.modFeed f g).reverts = s.reverts := rfl
@[simp] theorem State.modFeed_findings (f : Feed) (g : FeedRecord → FeedRecord) : (s.modFeed f g).findings = s.findings := rfl
@[simp] theorem State.modFeed_battery (f : Feed) (g : FeedRecord → FeedRecord) : (s.modFeed f g).battery = s.battery := rfl
@[simp] theorem State.modFeed_reference (f : Feed) (g : FeedRecord → FeedRecord) : (s.modFeed f g).reference = s.reference := rfl
@[simp] theorem State.modFeed_serviceA (f : Feed) (g : FeedRecord → FeedRecord) : (s.modFeed f g).serviceA = s.serviceA := rfl
@[simp] theorem State.modFeed_serviceB (f : Feed) (g : FeedRecord → FeedRecord) : (s.modFeed f g).serviceB = s.serviceB := rfl
@[simp] theorem State.modFeed_ports (f : Feed) (g : FeedRecord → FeedRecord) : (s.modFeed f g).ports = s.ports := rfl
@[simp] theorem State.modFeed_faultRecord (f : Feed) (g : FeedRecord → FeedRecord) : (s.modFeed f g).faultRecord = s.faultRecord := rfl
@[simp] theorem State.modFeed_missed (f : Feed) (g : FeedRecord → FeedRecord) : (s.modFeed f g).missed = s.missed := rfl
@[simp] theorem State.modFeed_causes (f : Feed) (g : FeedRecord → FeedRecord) : (s.modFeed f g).causes = s.causes := rfl
@[simp] theorem State.modFeed_source (f : Feed) (g : FeedRecord → FeedRecord) : (s.modFeed f g).source = s.source := rfl
@[simp] theorem State.modFeed_takenOver (f : Feed) (g : FeedRecord → FeedRecord) : (s.modFeed f g).takenOver = s.takenOver := rfl
@[simp] theorem State.modFeed_heldCapture (f : Feed) (g : FeedRecord → FeedRecord) : (s.modFeed f g).heldCapture = s.heldCapture := rfl
@[simp] theorem State.modFeed_resetStage (f : Feed) (g : FeedRecord → FeedRecord) : (s.modFeed f g).resetStage = s.resetStage := rfl
@[simp] theorem State.modFeed_image (f : Feed) (g : FeedRecord → FeedRecord) : (s.modFeed f g).image = s.image := rfl
@[simp] theorem State.modFeed_save (f : Feed) (g : FeedRecord → FeedRecord) : (s.modFeed f g).save = s.save := rfl
@[simp] theorem State.modFeed_freeCount (f : Feed) (g : FeedRecord → FeedRecord) : (s.modFeed f g).freeCount = s.freeCount := rfl
@[simp] theorem State.modFeed_pending (f : Feed) (g : FeedRecord → FeedRecord) : (s.modFeed f g).pending = s.pending := rfl

/-! ### modPort -/

@[simp] theorem State.modPort_phase (p : Port) (g : PortRecord → PortRecord) : (s.modPort p g).phase = s.phase := rfl
@[simp] theorem State.modPort_pos (p : Port) (g : PortRecord → PortRecord) : (s.modPort p g).pos = s.pos := rfl
@[simp] theorem State.modPort_stamp (p : Port) (g : PortRecord → PortRecord) : (s.modPort p g).stamp = s.stamp := rfl
@[simp] theorem State.modPort_lines (p : Port) (g : PortRecord → PortRecord) : (s.modPort p g).lines = s.lines := rfl
@[simp] theorem State.modPort_stations (p : Port) (g : PortRecord → PortRecord) : (s.modPort p g).stations = s.stations := rfl
@[simp] theorem State.modPort_patterns (p : Port) (g : PortRecord → PortRecord) : (s.modPort p g).patterns = s.patterns := rfl
@[simp] theorem State.modPort_feeds (p : Port) (g : PortRecord → PortRecord) : (s.modPort p g).feeds = s.feeds := rfl
@[simp] theorem State.modPort_policy (p : Port) (g : PortRecord → PortRecord) : (s.modPort p g).policy = s.policy := rfl
@[simp] theorem State.modPort_jobs (p : Port) (g : PortRecord → PortRecord) : (s.modPort p g).jobs = s.jobs := rfl
@[simp] theorem State.modPort_reverts (p : Port) (g : PortRecord → PortRecord) : (s.modPort p g).reverts = s.reverts := rfl
@[simp] theorem State.modPort_findings (p : Port) (g : PortRecord → PortRecord) : (s.modPort p g).findings = s.findings := rfl
@[simp] theorem State.modPort_battery (p : Port) (g : PortRecord → PortRecord) : (s.modPort p g).battery = s.battery := rfl
@[simp] theorem State.modPort_reference (p : Port) (g : PortRecord → PortRecord) : (s.modPort p g).reference = s.reference := rfl
@[simp] theorem State.modPort_serviceA (p : Port) (g : PortRecord → PortRecord) : (s.modPort p g).serviceA = s.serviceA := rfl
@[simp] theorem State.modPort_serviceB (p : Port) (g : PortRecord → PortRecord) : (s.modPort p g).serviceB = s.serviceB := rfl
@[simp] theorem State.modPort_faultRecord (p : Port) (g : PortRecord → PortRecord) : (s.modPort p g).faultRecord = s.faultRecord := rfl
@[simp] theorem State.modPort_missed (p : Port) (g : PortRecord → PortRecord) : (s.modPort p g).missed = s.missed := rfl
@[simp] theorem State.modPort_causes (p : Port) (g : PortRecord → PortRecord) : (s.modPort p g).causes = s.causes := rfl
@[simp] theorem State.modPort_source (p : Port) (g : PortRecord → PortRecord) : (s.modPort p g).source = s.source := rfl
@[simp] theorem State.modPort_takenOver (p : Port) (g : PortRecord → PortRecord) : (s.modPort p g).takenOver = s.takenOver := rfl
@[simp] theorem State.modPort_heldCapture (p : Port) (g : PortRecord → PortRecord) : (s.modPort p g).heldCapture = s.heldCapture := rfl
@[simp] theorem State.modPort_resetStage (p : Port) (g : PortRecord → PortRecord) : (s.modPort p g).resetStage = s.resetStage := rfl
@[simp] theorem State.modPort_image (p : Port) (g : PortRecord → PortRecord) : (s.modPort p g).image = s.image := rfl
@[simp] theorem State.modPort_save (p : Port) (g : PortRecord → PortRecord) : (s.modPort p g).save = s.save := rfl
@[simp] theorem State.modPort_freeCount (p : Port) (g : PortRecord → PortRecord) : (s.modPort p g).freeCount = s.freeCount := rfl
@[simp] theorem State.modPort_pending (p : Port) (g : PortRecord → PortRecord) : (s.modPort p g).pending = s.pending := rfl

/-! ### modJob -/

@[simp] theorem State.modJob_phase (l : Fin 32) (g : Job → Job) : (s.modJob l g).phase = s.phase := rfl
@[simp] theorem State.modJob_pos (l : Fin 32) (g : Job → Job) : (s.modJob l g).pos = s.pos := rfl
@[simp] theorem State.modJob_stamp (l : Fin 32) (g : Job → Job) : (s.modJob l g).stamp = s.stamp := rfl
@[simp] theorem State.modJob_lines (l : Fin 32) (g : Job → Job) : (s.modJob l g).lines = s.lines := rfl
@[simp] theorem State.modJob_stations (l : Fin 32) (g : Job → Job) : (s.modJob l g).stations = s.stations := rfl
@[simp] theorem State.modJob_patterns (l : Fin 32) (g : Job → Job) : (s.modJob l g).patterns = s.patterns := rfl
@[simp] theorem State.modJob_feeds (l : Fin 32) (g : Job → Job) : (s.modJob l g).feeds = s.feeds := rfl
@[simp] theorem State.modJob_policy (l : Fin 32) (g : Job → Job) : (s.modJob l g).policy = s.policy := rfl
@[simp] theorem State.modJob_reverts (l : Fin 32) (g : Job → Job) : (s.modJob l g).reverts = s.reverts := rfl
@[simp] theorem State.modJob_findings (l : Fin 32) (g : Job → Job) : (s.modJob l g).findings = s.findings := rfl
@[simp] theorem State.modJob_battery (l : Fin 32) (g : Job → Job) : (s.modJob l g).battery = s.battery := rfl
@[simp] theorem State.modJob_reference (l : Fin 32) (g : Job → Job) : (s.modJob l g).reference = s.reference := rfl
@[simp] theorem State.modJob_serviceA (l : Fin 32) (g : Job → Job) : (s.modJob l g).serviceA = s.serviceA := rfl
@[simp] theorem State.modJob_serviceB (l : Fin 32) (g : Job → Job) : (s.modJob l g).serviceB = s.serviceB := rfl
@[simp] theorem State.modJob_ports (l : Fin 32) (g : Job → Job) : (s.modJob l g).ports = s.ports := rfl
@[simp] theorem State.modJob_faultRecord (l : Fin 32) (g : Job → Job) : (s.modJob l g).faultRecord = s.faultRecord := rfl
@[simp] theorem State.modJob_missed (l : Fin 32) (g : Job → Job) : (s.modJob l g).missed = s.missed := rfl
@[simp] theorem State.modJob_causes (l : Fin 32) (g : Job → Job) : (s.modJob l g).causes = s.causes := rfl
@[simp] theorem State.modJob_source (l : Fin 32) (g : Job → Job) : (s.modJob l g).source = s.source := rfl
@[simp] theorem State.modJob_takenOver (l : Fin 32) (g : Job → Job) : (s.modJob l g).takenOver = s.takenOver := rfl
@[simp] theorem State.modJob_heldCapture (l : Fin 32) (g : Job → Job) : (s.modJob l g).heldCapture = s.heldCapture := rfl
@[simp] theorem State.modJob_resetStage (l : Fin 32) (g : Job → Job) : (s.modJob l g).resetStage = s.resetStage := rfl
@[simp] theorem State.modJob_image (l : Fin 32) (g : Job → Job) : (s.modJob l g).image = s.image := rfl
@[simp] theorem State.modJob_save (l : Fin 32) (g : Job → Job) : (s.modJob l g).save = s.save := rfl
@[simp] theorem State.modJob_freeCount (l : Fin 32) (g : Job → Job) : (s.modJob l g).freeCount = s.freeCount := rfl
@[simp] theorem State.modJob_pending (l : Fin 32) (g : Job → Job) : (s.modJob l g).pending = s.pending := rfl

/-! ### addJob -/

@[simp] theorem State.addJob_phase (j : Job) : (s.addJob j).phase = s.phase := rfl
@[simp] theorem State.addJob_pos (j : Job) : (s.addJob j).pos = s.pos := rfl
@[simp] theorem State.addJob_stamp (j : Job) : (s.addJob j).stamp = s.stamp := rfl
@[simp] theorem State.addJob_lines (j : Job) : (s.addJob j).lines = s.lines := rfl
@[simp] theorem State.addJob_stations (j : Job) : (s.addJob j).stations = s.stations := rfl
@[simp] theorem State.addJob_patterns (j : Job) : (s.addJob j).patterns = s.patterns := rfl
@[simp] theorem State.addJob_feeds (j : Job) : (s.addJob j).feeds = s.feeds := rfl
@[simp] theorem State.addJob_policy (j : Job) : (s.addJob j).policy = s.policy := rfl
@[simp] theorem State.addJob_reverts (j : Job) : (s.addJob j).reverts = s.reverts := rfl
@[simp] theorem State.addJob_findings (j : Job) : (s.addJob j).findings = s.findings := rfl
@[simp] theorem State.addJob_battery (j : Job) : (s.addJob j).battery = s.battery := rfl
@[simp] theorem State.addJob_reference (j : Job) : (s.addJob j).reference = s.reference := rfl
@[simp] theorem State.addJob_serviceA (j : Job) : (s.addJob j).serviceA = s.serviceA := rfl
@[simp] theorem State.addJob_serviceB (j : Job) : (s.addJob j).serviceB = s.serviceB := rfl
@[simp] theorem State.addJob_ports (j : Job) : (s.addJob j).ports = s.ports := rfl
@[simp] theorem State.addJob_faultRecord (j : Job) : (s.addJob j).faultRecord = s.faultRecord := rfl
@[simp] theorem State.addJob_missed (j : Job) : (s.addJob j).missed = s.missed := rfl
@[simp] theorem State.addJob_causes (j : Job) : (s.addJob j).causes = s.causes := rfl
@[simp] theorem State.addJob_source (j : Job) : (s.addJob j).source = s.source := rfl
@[simp] theorem State.addJob_takenOver (j : Job) : (s.addJob j).takenOver = s.takenOver := rfl
@[simp] theorem State.addJob_heldCapture (j : Job) : (s.addJob j).heldCapture = s.heldCapture := rfl
@[simp] theorem State.addJob_resetStage (j : Job) : (s.addJob j).resetStage = s.resetStage := rfl
@[simp] theorem State.addJob_image (j : Job) : (s.addJob j).image = s.image := rfl
@[simp] theorem State.addJob_save (j : Job) : (s.addJob j).save = s.save := rfl
@[simp] theorem State.addJob_freeCount (j : Job) : (s.addJob j).freeCount = s.freeCount := rfl
@[simp] theorem State.addJob_pending (j : Job) : (s.addJob j).pending = s.pending := rfl

/-! ### dropJob -/

@[simp] theorem State.dropJob_phase (l : Fin 32) : (s.dropJob l).phase = s.phase := rfl
@[simp] theorem State.dropJob_pos (l : Fin 32) : (s.dropJob l).pos = s.pos := rfl
@[simp] theorem State.dropJob_stamp (l : Fin 32) : (s.dropJob l).stamp = s.stamp := rfl
@[simp] theorem State.dropJob_lines (l : Fin 32) : (s.dropJob l).lines = s.lines := rfl
@[simp] theorem State.dropJob_stations (l : Fin 32) : (s.dropJob l).stations = s.stations := rfl
@[simp] theorem State.dropJob_patterns (l : Fin 32) : (s.dropJob l).patterns = s.patterns := rfl
@[simp] theorem State.dropJob_feeds (l : Fin 32) : (s.dropJob l).feeds = s.feeds := rfl
@[simp] theorem State.dropJob_policy (l : Fin 32) : (s.dropJob l).policy = s.policy := rfl
@[simp] theorem State.dropJob_reverts (l : Fin 32) : (s.dropJob l).reverts = s.reverts := rfl
@[simp] theorem State.dropJob_findings (l : Fin 32) : (s.dropJob l).findings = s.findings := rfl
@[simp] theorem State.dropJob_battery (l : Fin 32) : (s.dropJob l).battery = s.battery := rfl
@[simp] theorem State.dropJob_reference (l : Fin 32) : (s.dropJob l).reference = s.reference := rfl
@[simp] theorem State.dropJob_serviceA (l : Fin 32) : (s.dropJob l).serviceA = s.serviceA := rfl
@[simp] theorem State.dropJob_serviceB (l : Fin 32) : (s.dropJob l).serviceB = s.serviceB := rfl
@[simp] theorem State.dropJob_ports (l : Fin 32) : (s.dropJob l).ports = s.ports := rfl
@[simp] theorem State.dropJob_faultRecord (l : Fin 32) : (s.dropJob l).faultRecord = s.faultRecord := rfl
@[simp] theorem State.dropJob_missed (l : Fin 32) : (s.dropJob l).missed = s.missed := rfl
@[simp] theorem State.dropJob_causes (l : Fin 32) : (s.dropJob l).causes = s.causes := rfl
@[simp] theorem State.dropJob_source (l : Fin 32) : (s.dropJob l).source = s.source := rfl
@[simp] theorem State.dropJob_takenOver (l : Fin 32) : (s.dropJob l).takenOver = s.takenOver := rfl
@[simp] theorem State.dropJob_heldCapture (l : Fin 32) : (s.dropJob l).heldCapture = s.heldCapture := rfl
@[simp] theorem State.dropJob_resetStage (l : Fin 32) : (s.dropJob l).resetStage = s.resetStage := rfl
@[simp] theorem State.dropJob_image (l : Fin 32) : (s.dropJob l).image = s.image := rfl
@[simp] theorem State.dropJob_save (l : Fin 32) : (s.dropJob l).save = s.save := rfl
@[simp] theorem State.dropJob_freeCount (l : Fin 32) : (s.dropJob l).freeCount = s.freeCount := rfl
@[simp] theorem State.dropJob_pending (l : Fin 32) : (s.dropJob l).pending = s.pending := rfl

/-! ### modRevert -/

@[simp] theorem State.modRevert_phase (l : Fin 32) (g : Revert → Revert) : (s.modRevert l g).phase = s.phase := rfl
@[simp] theorem State.modRevert_pos (l : Fin 32) (g : Revert → Revert) : (s.modRevert l g).pos = s.pos := rfl
@[simp] theorem State.modRevert_stamp (l : Fin 32) (g : Revert → Revert) : (s.modRevert l g).stamp = s.stamp := rfl
@[simp] theorem State.modRevert_lines (l : Fin 32) (g : Revert → Revert) : (s.modRevert l g).lines = s.lines := rfl
@[simp] theorem State.modRevert_stations (l : Fin 32) (g : Revert → Revert) : (s.modRevert l g).stations = s.stations := rfl
@[simp] theorem State.modRevert_patterns (l : Fin 32) (g : Revert → Revert) : (s.modRevert l g).patterns = s.patterns := rfl
@[simp] theorem State.modRevert_feeds (l : Fin 32) (g : Revert → Revert) : (s.modRevert l g).feeds = s.feeds := rfl
@[simp] theorem State.modRevert_policy (l : Fin 32) (g : Revert → Revert) : (s.modRevert l g).policy = s.policy := rfl
@[simp] theorem State.modRevert_jobs (l : Fin 32) (g : Revert → Revert) : (s.modRevert l g).jobs = s.jobs := rfl
@[simp] theorem State.modRevert_findings (l : Fin 32) (g : Revert → Revert) : (s.modRevert l g).findings = s.findings := rfl
@[simp] theorem State.modRevert_battery (l : Fin 32) (g : Revert → Revert) : (s.modRevert l g).battery = s.battery := rfl
@[simp] theorem State.modRevert_reference (l : Fin 32) (g : Revert → Revert) : (s.modRevert l g).reference = s.reference := rfl
@[simp] theorem State.modRevert_serviceA (l : Fin 32) (g : Revert → Revert) : (s.modRevert l g).serviceA = s.serviceA := rfl
@[simp] theorem State.modRevert_serviceB (l : Fin 32) (g : Revert → Revert) : (s.modRevert l g).serviceB = s.serviceB := rfl
@[simp] theorem State.modRevert_ports (l : Fin 32) (g : Revert → Revert) : (s.modRevert l g).ports = s.ports := rfl
@[simp] theorem State.modRevert_faultRecord (l : Fin 32) (g : Revert → Revert) : (s.modRevert l g).faultRecord = s.faultRecord := rfl
@[simp] theorem State.modRevert_missed (l : Fin 32) (g : Revert → Revert) : (s.modRevert l g).missed = s.missed := rfl
@[simp] theorem State.modRevert_causes (l : Fin 32) (g : Revert → Revert) : (s.modRevert l g).causes = s.causes := rfl
@[simp] theorem State.modRevert_source (l : Fin 32) (g : Revert → Revert) : (s.modRevert l g).source = s.source := rfl
@[simp] theorem State.modRevert_takenOver (l : Fin 32) (g : Revert → Revert) : (s.modRevert l g).takenOver = s.takenOver := rfl
@[simp] theorem State.modRevert_heldCapture (l : Fin 32) (g : Revert → Revert) : (s.modRevert l g).heldCapture = s.heldCapture := rfl
@[simp] theorem State.modRevert_resetStage (l : Fin 32) (g : Revert → Revert) : (s.modRevert l g).resetStage = s.resetStage := rfl
@[simp] theorem State.modRevert_image (l : Fin 32) (g : Revert → Revert) : (s.modRevert l g).image = s.image := rfl
@[simp] theorem State.modRevert_save (l : Fin 32) (g : Revert → Revert) : (s.modRevert l g).save = s.save := rfl
@[simp] theorem State.modRevert_freeCount (l : Fin 32) (g : Revert → Revert) : (s.modRevert l g).freeCount = s.freeCount := rfl
@[simp] theorem State.modRevert_pending (l : Fin 32) (g : Revert → Revert) : (s.modRevert l g).pending = s.pending := rfl

/-! ### addRevert -/

@[simp] theorem State.addRevert_phase (r : Revert) : (s.addRevert r).phase = s.phase := rfl
@[simp] theorem State.addRevert_pos (r : Revert) : (s.addRevert r).pos = s.pos := rfl
@[simp] theorem State.addRevert_stamp (r : Revert) : (s.addRevert r).stamp = s.stamp := rfl
@[simp] theorem State.addRevert_lines (r : Revert) : (s.addRevert r).lines = s.lines := rfl
@[simp] theorem State.addRevert_stations (r : Revert) : (s.addRevert r).stations = s.stations := rfl
@[simp] theorem State.addRevert_patterns (r : Revert) : (s.addRevert r).patterns = s.patterns := rfl
@[simp] theorem State.addRevert_feeds (r : Revert) : (s.addRevert r).feeds = s.feeds := rfl
@[simp] theorem State.addRevert_policy (r : Revert) : (s.addRevert r).policy = s.policy := rfl
@[simp] theorem State.addRevert_jobs (r : Revert) : (s.addRevert r).jobs = s.jobs := rfl
@[simp] theorem State.addRevert_findings (r : Revert) : (s.addRevert r).findings = s.findings := rfl
@[simp] theorem State.addRevert_battery (r : Revert) : (s.addRevert r).battery = s.battery := rfl
@[simp] theorem State.addRevert_reference (r : Revert) : (s.addRevert r).reference = s.reference := rfl
@[simp] theorem State.addRevert_serviceA (r : Revert) : (s.addRevert r).serviceA = s.serviceA := rfl
@[simp] theorem State.addRevert_serviceB (r : Revert) : (s.addRevert r).serviceB = s.serviceB := rfl
@[simp] theorem State.addRevert_ports (r : Revert) : (s.addRevert r).ports = s.ports := rfl
@[simp] theorem State.addRevert_faultRecord (r : Revert) : (s.addRevert r).faultRecord = s.faultRecord := rfl
@[simp] theorem State.addRevert_missed (r : Revert) : (s.addRevert r).missed = s.missed := rfl
@[simp] theorem State.addRevert_causes (r : Revert) : (s.addRevert r).causes = s.causes := rfl
@[simp] theorem State.addRevert_source (r : Revert) : (s.addRevert r).source = s.source := rfl
@[simp] theorem State.addRevert_takenOver (r : Revert) : (s.addRevert r).takenOver = s.takenOver := rfl
@[simp] theorem State.addRevert_heldCapture (r : Revert) : (s.addRevert r).heldCapture = s.heldCapture := rfl
@[simp] theorem State.addRevert_resetStage (r : Revert) : (s.addRevert r).resetStage = s.resetStage := rfl
@[simp] theorem State.addRevert_image (r : Revert) : (s.addRevert r).image = s.image := rfl
@[simp] theorem State.addRevert_save (r : Revert) : (s.addRevert r).save = s.save := rfl
@[simp] theorem State.addRevert_freeCount (r : Revert) : (s.addRevert r).freeCount = s.freeCount := rfl
@[simp] theorem State.addRevert_pending (r : Revert) : (s.addRevert r).pending = s.pending := rfl

/-! ### dropRevert -/

@[simp] theorem State.dropRevert_phase (l : Fin 32) : (s.dropRevert l).phase = s.phase := rfl
@[simp] theorem State.dropRevert_pos (l : Fin 32) : (s.dropRevert l).pos = s.pos := rfl
@[simp] theorem State.dropRevert_stamp (l : Fin 32) : (s.dropRevert l).stamp = s.stamp := rfl
@[simp] theorem State.dropRevert_lines (l : Fin 32) : (s.dropRevert l).lines = s.lines := rfl
@[simp] theorem State.dropRevert_stations (l : Fin 32) : (s.dropRevert l).stations = s.stations := rfl
@[simp] theorem State.dropRevert_patterns (l : Fin 32) : (s.dropRevert l).patterns = s.patterns := rfl
@[simp] theorem State.dropRevert_feeds (l : Fin 32) : (s.dropRevert l).feeds = s.feeds := rfl
@[simp] theorem State.dropRevert_policy (l : Fin 32) : (s.dropRevert l).policy = s.policy := rfl
@[simp] theorem State.dropRevert_jobs (l : Fin 32) : (s.dropRevert l).jobs = s.jobs := rfl
@[simp] theorem State.dropRevert_findings (l : Fin 32) : (s.dropRevert l).findings = s.findings := rfl
@[simp] theorem State.dropRevert_battery (l : Fin 32) : (s.dropRevert l).battery = s.battery := rfl
@[simp] theorem State.dropRevert_reference (l : Fin 32) : (s.dropRevert l).reference = s.reference := rfl
@[simp] theorem State.dropRevert_serviceA (l : Fin 32) : (s.dropRevert l).serviceA = s.serviceA := rfl
@[simp] theorem State.dropRevert_serviceB (l : Fin 32) : (s.dropRevert l).serviceB = s.serviceB := rfl
@[simp] theorem State.dropRevert_ports (l : Fin 32) : (s.dropRevert l).ports = s.ports := rfl
@[simp] theorem State.dropRevert_faultRecord (l : Fin 32) : (s.dropRevert l).faultRecord = s.faultRecord := rfl
@[simp] theorem State.dropRevert_missed (l : Fin 32) : (s.dropRevert l).missed = s.missed := rfl
@[simp] theorem State.dropRevert_causes (l : Fin 32) : (s.dropRevert l).causes = s.causes := rfl
@[simp] theorem State.dropRevert_source (l : Fin 32) : (s.dropRevert l).source = s.source := rfl
@[simp] theorem State.dropRevert_takenOver (l : Fin 32) : (s.dropRevert l).takenOver = s.takenOver := rfl
@[simp] theorem State.dropRevert_heldCapture (l : Fin 32) : (s.dropRevert l).heldCapture = s.heldCapture := rfl
@[simp] theorem State.dropRevert_resetStage (l : Fin 32) : (s.dropRevert l).resetStage = s.resetStage := rfl
@[simp] theorem State.dropRevert_image (l : Fin 32) : (s.dropRevert l).image = s.image := rfl
@[simp] theorem State.dropRevert_save (l : Fin 32) : (s.dropRevert l).save = s.save := rfl
@[simp] theorem State.dropRevert_freeCount (l : Fin 32) : (s.dropRevert l).freeCount = s.freeCount := rfl
@[simp] theorem State.dropRevert_pending (l : Fin 32) : (s.dropRevert l).pending = s.pending := rfl

/-! ### makeFinding -/

@[simp] theorem State.makeFinding_phase (l : Fin 32) (k : FindingKind) : (s.makeFinding l k).phase = s.phase := rfl
@[simp] theorem State.makeFinding_pos (l : Fin 32) (k : FindingKind) : (s.makeFinding l k).pos = s.pos := rfl
@[simp] theorem State.makeFinding_stamp (l : Fin 32) (k : FindingKind) : (s.makeFinding l k).stamp = s.stamp := rfl
@[simp] theorem State.makeFinding_lines (l : Fin 32) (k : FindingKind) : (s.makeFinding l k).lines = s.lines := rfl
@[simp] theorem State.makeFinding_stations (l : Fin 32) (k : FindingKind) : (s.makeFinding l k).stations = s.stations := rfl
@[simp] theorem State.makeFinding_patterns (l : Fin 32) (k : FindingKind) : (s.makeFinding l k).patterns = s.patterns := rfl
@[simp] theorem State.makeFinding_feeds (l : Fin 32) (k : FindingKind) : (s.makeFinding l k).feeds = s.feeds := rfl
@[simp] theorem State.makeFinding_policy (l : Fin 32) (k : FindingKind) : (s.makeFinding l k).policy = s.policy := rfl
@[simp] theorem State.makeFinding_jobs (l : Fin 32) (k : FindingKind) : (s.makeFinding l k).jobs = s.jobs := rfl
@[simp] theorem State.makeFinding_reverts (l : Fin 32) (k : FindingKind) : (s.makeFinding l k).reverts = s.reverts := rfl
@[simp] theorem State.makeFinding_battery (l : Fin 32) (k : FindingKind) : (s.makeFinding l k).battery = s.battery := rfl
@[simp] theorem State.makeFinding_reference (l : Fin 32) (k : FindingKind) : (s.makeFinding l k).reference = s.reference := rfl
@[simp] theorem State.makeFinding_serviceA (l : Fin 32) (k : FindingKind) : (s.makeFinding l k).serviceA = s.serviceA := rfl
@[simp] theorem State.makeFinding_serviceB (l : Fin 32) (k : FindingKind) : (s.makeFinding l k).serviceB = s.serviceB := rfl
@[simp] theorem State.makeFinding_ports (l : Fin 32) (k : FindingKind) : (s.makeFinding l k).ports = s.ports := rfl
@[simp] theorem State.makeFinding_faultRecord (l : Fin 32) (k : FindingKind) : (s.makeFinding l k).faultRecord = s.faultRecord := rfl
@[simp] theorem State.makeFinding_missed (l : Fin 32) (k : FindingKind) : (s.makeFinding l k).missed = s.missed := rfl
@[simp] theorem State.makeFinding_causes (l : Fin 32) (k : FindingKind) : (s.makeFinding l k).causes = s.causes := rfl
@[simp] theorem State.makeFinding_source (l : Fin 32) (k : FindingKind) : (s.makeFinding l k).source = s.source := rfl
@[simp] theorem State.makeFinding_takenOver (l : Fin 32) (k : FindingKind) : (s.makeFinding l k).takenOver = s.takenOver := rfl
@[simp] theorem State.makeFinding_heldCapture (l : Fin 32) (k : FindingKind) : (s.makeFinding l k).heldCapture = s.heldCapture := rfl
@[simp] theorem State.makeFinding_resetStage (l : Fin 32) (k : FindingKind) : (s.makeFinding l k).resetStage = s.resetStage := rfl
@[simp] theorem State.makeFinding_image (l : Fin 32) (k : FindingKind) : (s.makeFinding l k).image = s.image := rfl
@[simp] theorem State.makeFinding_save (l : Fin 32) (k : FindingKind) : (s.makeFinding l k).save = s.save := rfl
@[simp] theorem State.makeFinding_freeCount (l : Fin 32) (k : FindingKind) : (s.makeFinding l k).freeCount = s.freeCount := rfl
@[simp] theorem State.makeFinding_pending (l : Fin 32) (k : FindingKind) : (s.makeFinding l k).pending = s.pending := rfl

/-! ### takeFinding -/

@[simp] theorem State.takeFinding_phase (l : Fin 32) : (s.takeFinding l).phase = s.phase := rfl
@[simp] theorem State.takeFinding_pos (l : Fin 32) : (s.takeFinding l).pos = s.pos := rfl
@[simp] theorem State.takeFinding_stamp (l : Fin 32) : (s.takeFinding l).stamp = s.stamp := rfl
@[simp] theorem State.takeFinding_lines (l : Fin 32) : (s.takeFinding l).lines = s.lines := rfl
@[simp] theorem State.takeFinding_stations (l : Fin 32) : (s.takeFinding l).stations = s.stations := rfl
@[simp] theorem State.takeFinding_patterns (l : Fin 32) : (s.takeFinding l).patterns = s.patterns := rfl
@[simp] theorem State.takeFinding_feeds (l : Fin 32) : (s.takeFinding l).feeds = s.feeds := rfl
@[simp] theorem State.takeFinding_policy (l : Fin 32) : (s.takeFinding l).policy = s.policy := rfl
@[simp] theorem State.takeFinding_jobs (l : Fin 32) : (s.takeFinding l).jobs = s.jobs := rfl
@[simp] theorem State.takeFinding_reverts (l : Fin 32) : (s.takeFinding l).reverts = s.reverts := rfl
@[simp] theorem State.takeFinding_battery (l : Fin 32) : (s.takeFinding l).battery = s.battery := rfl
@[simp] theorem State.takeFinding_reference (l : Fin 32) : (s.takeFinding l).reference = s.reference := rfl
@[simp] theorem State.takeFinding_serviceA (l : Fin 32) : (s.takeFinding l).serviceA = s.serviceA := rfl
@[simp] theorem State.takeFinding_serviceB (l : Fin 32) : (s.takeFinding l).serviceB = s.serviceB := rfl
@[simp] theorem State.takeFinding_ports (l : Fin 32) : (s.takeFinding l).ports = s.ports := rfl
@[simp] theorem State.takeFinding_faultRecord (l : Fin 32) : (s.takeFinding l).faultRecord = s.faultRecord := rfl
@[simp] theorem State.takeFinding_missed (l : Fin 32) : (s.takeFinding l).missed = s.missed := rfl
@[simp] theorem State.takeFinding_causes (l : Fin 32) : (s.takeFinding l).causes = s.causes := rfl
@[simp] theorem State.takeFinding_source (l : Fin 32) : (s.takeFinding l).source = s.source := rfl
@[simp] theorem State.takeFinding_takenOver (l : Fin 32) : (s.takeFinding l).takenOver = s.takenOver := rfl
@[simp] theorem State.takeFinding_heldCapture (l : Fin 32) : (s.takeFinding l).heldCapture = s.heldCapture := rfl
@[simp] theorem State.takeFinding_resetStage (l : Fin 32) : (s.takeFinding l).resetStage = s.resetStage := rfl
@[simp] theorem State.takeFinding_image (l : Fin 32) : (s.takeFinding l).image = s.image := rfl
@[simp] theorem State.takeFinding_save (l : Fin 32) : (s.takeFinding l).save = s.save := rfl
@[simp] theorem State.takeFinding_freeCount (l : Fin 32) : (s.takeFinding l).freeCount = s.freeCount := rfl
@[simp] theorem State.takeFinding_pending (l : Fin 32) : (s.takeFinding l).pending = s.pending := rfl

/-! ### dropFindings -/

@[simp] theorem State.dropFindings_phase (l : Fin 32) : (s.dropFindings l).phase = s.phase := rfl
@[simp] theorem State.dropFindings_pos (l : Fin 32) : (s.dropFindings l).pos = s.pos := rfl
@[simp] theorem State.dropFindings_stamp (l : Fin 32) : (s.dropFindings l).stamp = s.stamp := rfl
@[simp] theorem State.dropFindings_lines (l : Fin 32) : (s.dropFindings l).lines = s.lines := rfl
@[simp] theorem State.dropFindings_stations (l : Fin 32) : (s.dropFindings l).stations = s.stations := rfl
@[simp] theorem State.dropFindings_patterns (l : Fin 32) : (s.dropFindings l).patterns = s.patterns := rfl
@[simp] theorem State.dropFindings_feeds (l : Fin 32) : (s.dropFindings l).feeds = s.feeds := rfl
@[simp] theorem State.dropFindings_policy (l : Fin 32) : (s.dropFindings l).policy = s.policy := rfl
@[simp] theorem State.dropFindings_jobs (l : Fin 32) : (s.dropFindings l).jobs = s.jobs := rfl
@[simp] theorem State.dropFindings_reverts (l : Fin 32) : (s.dropFindings l).reverts = s.reverts := rfl
@[simp] theorem State.dropFindings_battery (l : Fin 32) : (s.dropFindings l).battery = s.battery := rfl
@[simp] theorem State.dropFindings_reference (l : Fin 32) : (s.dropFindings l).reference = s.reference := rfl
@[simp] theorem State.dropFindings_serviceA (l : Fin 32) : (s.dropFindings l).serviceA = s.serviceA := rfl
@[simp] theorem State.dropFindings_serviceB (l : Fin 32) : (s.dropFindings l).serviceB = s.serviceB := rfl
@[simp] theorem State.dropFindings_ports (l : Fin 32) : (s.dropFindings l).ports = s.ports := rfl
@[simp] theorem State.dropFindings_faultRecord (l : Fin 32) : (s.dropFindings l).faultRecord = s.faultRecord := rfl
@[simp] theorem State.dropFindings_missed (l : Fin 32) : (s.dropFindings l).missed = s.missed := rfl
@[simp] theorem State.dropFindings_causes (l : Fin 32) : (s.dropFindings l).causes = s.causes := rfl
@[simp] theorem State.dropFindings_source (l : Fin 32) : (s.dropFindings l).source = s.source := rfl
@[simp] theorem State.dropFindings_takenOver (l : Fin 32) : (s.dropFindings l).takenOver = s.takenOver := rfl
@[simp] theorem State.dropFindings_heldCapture (l : Fin 32) : (s.dropFindings l).heldCapture = s.heldCapture := rfl
@[simp] theorem State.dropFindings_resetStage (l : Fin 32) : (s.dropFindings l).resetStage = s.resetStage := rfl
@[simp] theorem State.dropFindings_image (l : Fin 32) : (s.dropFindings l).image = s.image := rfl
@[simp] theorem State.dropFindings_save (l : Fin 32) : (s.dropFindings l).save = s.save := rfl
@[simp] theorem State.dropFindings_freeCount (l : Fin 32) : (s.dropFindings l).freeCount = s.freeCount := rfl
@[simp] theorem State.dropFindings_pending (l : Fin 32) : (s.dropFindings l).pending = s.pending := rfl

/-! ### voidFindings -/

@[simp] theorem State.voidFindings_phase (l : Fin 32) : (s.voidFindings l).phase = s.phase := rfl
@[simp] theorem State.voidFindings_pos (l : Fin 32) : (s.voidFindings l).pos = s.pos := rfl
@[simp] theorem State.voidFindings_stamp (l : Fin 32) : (s.voidFindings l).stamp = s.stamp := rfl
@[simp] theorem State.voidFindings_lines (l : Fin 32) : (s.voidFindings l).lines = s.lines := rfl
@[simp] theorem State.voidFindings_stations (l : Fin 32) : (s.voidFindings l).stations = s.stations := rfl
@[simp] theorem State.voidFindings_patterns (l : Fin 32) : (s.voidFindings l).patterns = s.patterns := rfl
@[simp] theorem State.voidFindings_feeds (l : Fin 32) : (s.voidFindings l).feeds = s.feeds := rfl
@[simp] theorem State.voidFindings_policy (l : Fin 32) : (s.voidFindings l).policy = s.policy := rfl
@[simp] theorem State.voidFindings_jobs (l : Fin 32) : (s.voidFindings l).jobs = s.jobs := rfl
@[simp] theorem State.voidFindings_reverts (l : Fin 32) : (s.voidFindings l).reverts = s.reverts := rfl
@[simp] theorem State.voidFindings_battery (l : Fin 32) : (s.voidFindings l).battery = s.battery := rfl
@[simp] theorem State.voidFindings_reference (l : Fin 32) : (s.voidFindings l).reference = s.reference := rfl
@[simp] theorem State.voidFindings_serviceA (l : Fin 32) : (s.voidFindings l).serviceA = s.serviceA := rfl
@[simp] theorem State.voidFindings_serviceB (l : Fin 32) : (s.voidFindings l).serviceB = s.serviceB := rfl
@[simp] theorem State.voidFindings_ports (l : Fin 32) : (s.voidFindings l).ports = s.ports := rfl
@[simp] theorem State.voidFindings_faultRecord (l : Fin 32) : (s.voidFindings l).faultRecord = s.faultRecord := rfl
@[simp] theorem State.voidFindings_missed (l : Fin 32) : (s.voidFindings l).missed = s.missed := rfl
@[simp] theorem State.voidFindings_causes (l : Fin 32) : (s.voidFindings l).causes = s.causes := rfl
@[simp] theorem State.voidFindings_source (l : Fin 32) : (s.voidFindings l).source = s.source := rfl
@[simp] theorem State.voidFindings_takenOver (l : Fin 32) : (s.voidFindings l).takenOver = s.takenOver := rfl
@[simp] theorem State.voidFindings_heldCapture (l : Fin 32) : (s.voidFindings l).heldCapture = s.heldCapture := rfl
@[simp] theorem State.voidFindings_resetStage (l : Fin 32) : (s.voidFindings l).resetStage = s.resetStage := rfl
@[simp] theorem State.voidFindings_image (l : Fin 32) : (s.voidFindings l).image = s.image := rfl
@[simp] theorem State.voidFindings_save (l : Fin 32) : (s.voidFindings l).save = s.save := rfl
@[simp] theorem State.voidFindings_freeCount (l : Fin 32) : (s.voidFindings l).freeCount = s.freeCount := rfl
@[simp] theorem State.voidFindings_pending (l : Fin 32) : (s.voidFindings l).pending = s.pending := rfl

/-! ### enqueue -/

@[simp] theorem State.enqueue_phase (p : Port) (e : Event) : (s.enqueue p e).phase = s.phase := rfl
@[simp] theorem State.enqueue_pos (p : Port) (e : Event) : (s.enqueue p e).pos = s.pos := rfl
@[simp] theorem State.enqueue_stamp (p : Port) (e : Event) : (s.enqueue p e).stamp = s.stamp := rfl
@[simp] theorem State.enqueue_lines (p : Port) (e : Event) : (s.enqueue p e).lines = s.lines := rfl
@[simp] theorem State.enqueue_stations (p : Port) (e : Event) : (s.enqueue p e).stations = s.stations := rfl
@[simp] theorem State.enqueue_patterns (p : Port) (e : Event) : (s.enqueue p e).patterns = s.patterns := rfl
@[simp] theorem State.enqueue_feeds (p : Port) (e : Event) : (s.enqueue p e).feeds = s.feeds := rfl
@[simp] theorem State.enqueue_policy (p : Port) (e : Event) : (s.enqueue p e).policy = s.policy := rfl
@[simp] theorem State.enqueue_jobs (p : Port) (e : Event) : (s.enqueue p e).jobs = s.jobs := rfl
@[simp] theorem State.enqueue_reverts (p : Port) (e : Event) : (s.enqueue p e).reverts = s.reverts := rfl
@[simp] theorem State.enqueue_findings (p : Port) (e : Event) : (s.enqueue p e).findings = s.findings := rfl
@[simp] theorem State.enqueue_battery (p : Port) (e : Event) : (s.enqueue p e).battery = s.battery := rfl
@[simp] theorem State.enqueue_reference (p : Port) (e : Event) : (s.enqueue p e).reference = s.reference := rfl
@[simp] theorem State.enqueue_serviceA (p : Port) (e : Event) : (s.enqueue p e).serviceA = s.serviceA := rfl
@[simp] theorem State.enqueue_serviceB (p : Port) (e : Event) : (s.enqueue p e).serviceB = s.serviceB := rfl
@[simp] theorem State.enqueue_faultRecord (p : Port) (e : Event) : (s.enqueue p e).faultRecord = s.faultRecord := rfl
@[simp] theorem State.enqueue_missed (p : Port) (e : Event) : (s.enqueue p e).missed = s.missed := rfl
@[simp] theorem State.enqueue_causes (p : Port) (e : Event) : (s.enqueue p e).causes = s.causes := rfl
@[simp] theorem State.enqueue_source (p : Port) (e : Event) : (s.enqueue p e).source = s.source := rfl
@[simp] theorem State.enqueue_takenOver (p : Port) (e : Event) : (s.enqueue p e).takenOver = s.takenOver := rfl
@[simp] theorem State.enqueue_heldCapture (p : Port) (e : Event) : (s.enqueue p e).heldCapture = s.heldCapture := rfl
@[simp] theorem State.enqueue_resetStage (p : Port) (e : Event) : (s.enqueue p e).resetStage = s.resetStage := rfl
@[simp] theorem State.enqueue_image (p : Port) (e : Event) : (s.enqueue p e).image = s.image := rfl
@[simp] theorem State.enqueue_save (p : Port) (e : Event) : (s.enqueue p e).save = s.save := rfl
@[simp] theorem State.enqueue_freeCount (p : Port) (e : Event) : (s.enqueue p e).freeCount = s.freeCount := rfl
@[simp] theorem State.enqueue_pending (p : Port) (e : Event) : (s.enqueue p e).pending = s.pending := rfl

/-! ### flush -/

@[simp] theorem State.flush_phase (p : Port) : (s.flush p).phase = s.phase := rfl
@[simp] theorem State.flush_pos (p : Port) : (s.flush p).pos = s.pos := rfl
@[simp] theorem State.flush_stamp (p : Port) : (s.flush p).stamp = s.stamp := rfl
@[simp] theorem State.flush_lines (p : Port) : (s.flush p).lines = s.lines := rfl
@[simp] theorem State.flush_stations (p : Port) : (s.flush p).stations = s.stations := rfl
@[simp] theorem State.flush_patterns (p : Port) : (s.flush p).patterns = s.patterns := rfl
@[simp] theorem State.flush_feeds (p : Port) : (s.flush p).feeds = s.feeds := rfl
@[simp] theorem State.flush_policy (p : Port) : (s.flush p).policy = s.policy := rfl
@[simp] theorem State.flush_jobs (p : Port) : (s.flush p).jobs = s.jobs := rfl
@[simp] theorem State.flush_reverts (p : Port) : (s.flush p).reverts = s.reverts := rfl
@[simp] theorem State.flush_findings (p : Port) : (s.flush p).findings = s.findings := rfl
@[simp] theorem State.flush_battery (p : Port) : (s.flush p).battery = s.battery := rfl
@[simp] theorem State.flush_reference (p : Port) : (s.flush p).reference = s.reference := rfl
@[simp] theorem State.flush_serviceA (p : Port) : (s.flush p).serviceA = s.serviceA := rfl
@[simp] theorem State.flush_serviceB (p : Port) : (s.flush p).serviceB = s.serviceB := rfl
@[simp] theorem State.flush_faultRecord (p : Port) : (s.flush p).faultRecord = s.faultRecord := rfl
@[simp] theorem State.flush_missed (p : Port) : (s.flush p).missed = s.missed := rfl
@[simp] theorem State.flush_causes (p : Port) : (s.flush p).causes = s.causes := rfl
@[simp] theorem State.flush_source (p : Port) : (s.flush p).source = s.source := rfl
@[simp] theorem State.flush_takenOver (p : Port) : (s.flush p).takenOver = s.takenOver := rfl
@[simp] theorem State.flush_heldCapture (p : Port) : (s.flush p).heldCapture = s.heldCapture := rfl
@[simp] theorem State.flush_resetStage (p : Port) : (s.flush p).resetStage = s.resetStage := rfl
@[simp] theorem State.flush_image (p : Port) : (s.flush p).image = s.image := rfl
@[simp] theorem State.flush_save (p : Port) : (s.flush p).save = s.save := rfl
@[simp] theorem State.flush_freeCount (p : Port) : (s.flush p).freeCount = s.freeCount := rfl
@[simp] theorem State.flush_pending (p : Port) : (s.flush p).pending = s.pending := rfl

/-! ### cutDrive -/

@[simp] theorem State.cutDrive_phase (l : Fin 32) : (s.cutDrive l).phase = s.phase := rfl
@[simp] theorem State.cutDrive_pos (l : Fin 32) : (s.cutDrive l).pos = s.pos := rfl
@[simp] theorem State.cutDrive_stamp (l : Fin 32) : (s.cutDrive l).stamp = s.stamp := rfl
@[simp] theorem State.cutDrive_stations (l : Fin 32) : (s.cutDrive l).stations = s.stations := rfl
@[simp] theorem State.cutDrive_patterns (l : Fin 32) : (s.cutDrive l).patterns = s.patterns := rfl
@[simp] theorem State.cutDrive_feeds (l : Fin 32) : (s.cutDrive l).feeds = s.feeds := rfl
@[simp] theorem State.cutDrive_policy (l : Fin 32) : (s.cutDrive l).policy = s.policy := rfl
@[simp] theorem State.cutDrive_jobs (l : Fin 32) : (s.cutDrive l).jobs = s.jobs := rfl
@[simp] theorem State.cutDrive_reverts (l : Fin 32) : (s.cutDrive l).reverts = s.reverts := rfl
@[simp] theorem State.cutDrive_findings (l : Fin 32) : (s.cutDrive l).findings = s.findings := rfl
@[simp] theorem State.cutDrive_battery (l : Fin 32) : (s.cutDrive l).battery = s.battery := rfl
@[simp] theorem State.cutDrive_reference (l : Fin 32) : (s.cutDrive l).reference = s.reference := rfl
@[simp] theorem State.cutDrive_serviceA (l : Fin 32) : (s.cutDrive l).serviceA = s.serviceA := rfl
@[simp] theorem State.cutDrive_serviceB (l : Fin 32) : (s.cutDrive l).serviceB = s.serviceB := rfl
@[simp] theorem State.cutDrive_ports (l : Fin 32) : (s.cutDrive l).ports = s.ports := rfl
@[simp] theorem State.cutDrive_faultRecord (l : Fin 32) : (s.cutDrive l).faultRecord = s.faultRecord := rfl
@[simp] theorem State.cutDrive_missed (l : Fin 32) : (s.cutDrive l).missed = s.missed := rfl
@[simp] theorem State.cutDrive_causes (l : Fin 32) : (s.cutDrive l).causes = s.causes := rfl
@[simp] theorem State.cutDrive_source (l : Fin 32) : (s.cutDrive l).source = s.source := rfl
@[simp] theorem State.cutDrive_takenOver (l : Fin 32) : (s.cutDrive l).takenOver = s.takenOver := rfl
@[simp] theorem State.cutDrive_heldCapture (l : Fin 32) : (s.cutDrive l).heldCapture = s.heldCapture := rfl
@[simp] theorem State.cutDrive_resetStage (l : Fin 32) : (s.cutDrive l).resetStage = s.resetStage := rfl
@[simp] theorem State.cutDrive_image (l : Fin 32) : (s.cutDrive l).image = s.image := rfl
@[simp] theorem State.cutDrive_save (l : Fin 32) : (s.cutDrive l).save = s.save := rfl
@[simp] theorem State.cutDrive_freeCount (l : Fin 32) : (s.cutDrive l).freeCount = s.freeCount := rfl
@[simp] theorem State.cutDrive_pending (l : Fin 32) : (s.cutDrive l).pending = s.pending := rfl

/-! ### releaseBinding -/

@[simp] theorem State.releaseBinding_phase (l : Fin 32) : (s.releaseBinding l).phase = s.phase := rfl
@[simp] theorem State.releaseBinding_pos (l : Fin 32) : (s.releaseBinding l).pos = s.pos := rfl
@[simp] theorem State.releaseBinding_stamp (l : Fin 32) : (s.releaseBinding l).stamp = s.stamp := rfl
@[simp] theorem State.releaseBinding_stations (l : Fin 32) : (s.releaseBinding l).stations = s.stations := rfl
@[simp] theorem State.releaseBinding_patterns (l : Fin 32) : (s.releaseBinding l).patterns = s.patterns := rfl
@[simp] theorem State.releaseBinding_feeds (l : Fin 32) : (s.releaseBinding l).feeds = s.feeds := rfl
@[simp] theorem State.releaseBinding_policy (l : Fin 32) : (s.releaseBinding l).policy = s.policy := rfl
@[simp] theorem State.releaseBinding_jobs (l : Fin 32) : (s.releaseBinding l).jobs = s.jobs := rfl
@[simp] theorem State.releaseBinding_reverts (l : Fin 32) : (s.releaseBinding l).reverts = s.reverts := rfl
@[simp] theorem State.releaseBinding_findings (l : Fin 32) : (s.releaseBinding l).findings = s.findings := rfl
@[simp] theorem State.releaseBinding_battery (l : Fin 32) : (s.releaseBinding l).battery = s.battery := rfl
@[simp] theorem State.releaseBinding_reference (l : Fin 32) : (s.releaseBinding l).reference = s.reference := rfl
@[simp] theorem State.releaseBinding_serviceA (l : Fin 32) : (s.releaseBinding l).serviceA = s.serviceA := rfl
@[simp] theorem State.releaseBinding_serviceB (l : Fin 32) : (s.releaseBinding l).serviceB = s.serviceB := rfl
@[simp] theorem State.releaseBinding_ports (l : Fin 32) : (s.releaseBinding l).ports = s.ports := rfl
@[simp] theorem State.releaseBinding_faultRecord (l : Fin 32) : (s.releaseBinding l).faultRecord = s.faultRecord := rfl
@[simp] theorem State.releaseBinding_missed (l : Fin 32) : (s.releaseBinding l).missed = s.missed := rfl
@[simp] theorem State.releaseBinding_causes (l : Fin 32) : (s.releaseBinding l).causes = s.causes := rfl
@[simp] theorem State.releaseBinding_source (l : Fin 32) : (s.releaseBinding l).source = s.source := rfl
@[simp] theorem State.releaseBinding_takenOver (l : Fin 32) : (s.releaseBinding l).takenOver = s.takenOver := rfl
@[simp] theorem State.releaseBinding_heldCapture (l : Fin 32) : (s.releaseBinding l).heldCapture = s.heldCapture := rfl
@[simp] theorem State.releaseBinding_resetStage (l : Fin 32) : (s.releaseBinding l).resetStage = s.resetStage := rfl
@[simp] theorem State.releaseBinding_image (l : Fin 32) : (s.releaseBinding l).image = s.image := rfl
@[simp] theorem State.releaseBinding_save (l : Fin 32) : (s.releaseBinding l).save = s.save := rfl
@[simp] theorem State.releaseBinding_freeCount (l : Fin 32) : (s.releaseBinding l).freeCount = s.freeCount := rfl
@[simp] theorem State.releaseBinding_pending (l : Fin 32) : (s.releaseBinding l).pending = s.pending := rfl

/-! ### advance -/

@[simp] theorem State.advance_phase : (s.advance).phase = s.phase := rfl
@[simp] theorem State.advance_lines : (s.advance).lines = s.lines := rfl
@[simp] theorem State.advance_stations : (s.advance).stations = s.stations := rfl
@[simp] theorem State.advance_patterns : (s.advance).patterns = s.patterns := rfl
@[simp] theorem State.advance_feeds : (s.advance).feeds = s.feeds := rfl
@[simp] theorem State.advance_policy : (s.advance).policy = s.policy := rfl
@[simp] theorem State.advance_jobs : (s.advance).jobs = s.jobs := rfl
@[simp] theorem State.advance_reverts : (s.advance).reverts = s.reverts := rfl
@[simp] theorem State.advance_findings : (s.advance).findings = s.findings := rfl
@[simp] theorem State.advance_battery : (s.advance).battery = s.battery := rfl
@[simp] theorem State.advance_reference : (s.advance).reference = s.reference := rfl
@[simp] theorem State.advance_serviceA : (s.advance).serviceA = s.serviceA := rfl
@[simp] theorem State.advance_serviceB : (s.advance).serviceB = s.serviceB := rfl
@[simp] theorem State.advance_ports : (s.advance).ports = s.ports := rfl
@[simp] theorem State.advance_faultRecord : (s.advance).faultRecord = s.faultRecord := rfl
@[simp] theorem State.advance_missed : (s.advance).missed = s.missed := rfl
@[simp] theorem State.advance_causes : (s.advance).causes = s.causes := rfl
@[simp] theorem State.advance_source : (s.advance).source = s.source := rfl
@[simp] theorem State.advance_takenOver : (s.advance).takenOver = s.takenOver := rfl
@[simp] theorem State.advance_heldCapture : (s.advance).heldCapture = s.heldCapture := rfl
@[simp] theorem State.advance_resetStage : (s.advance).resetStage = s.resetStage := rfl
@[simp] theorem State.advance_image : (s.advance).image = s.image := rfl
@[simp] theorem State.advance_save : (s.advance).save = s.save := rfl
@[simp] theorem State.advance_freeCount : (s.advance).freeCount = s.freeCount := rfl
@[simp] theorem State.advance_pending : (s.advance).pending = s.pending := rfl

/-! ### restartLine -/

@[simp] theorem State.restartLine_phase (l : Fin 32) : (s.restartLine l).phase = s.phase := rfl
@[simp] theorem State.restartLine_pos (l : Fin 32) : (s.restartLine l).pos = s.pos := rfl
@[simp] theorem State.restartLine_stamp (l : Fin 32) : (s.restartLine l).stamp = s.stamp := rfl
@[simp] theorem State.restartLine_stations (l : Fin 32) : (s.restartLine l).stations = s.stations := rfl
@[simp] theorem State.restartLine_patterns (l : Fin 32) : (s.restartLine l).patterns = s.patterns := rfl
@[simp] theorem State.restartLine_feeds (l : Fin 32) : (s.restartLine l).feeds = s.feeds := rfl
@[simp] theorem State.restartLine_policy (l : Fin 32) : (s.restartLine l).policy = s.policy := rfl
@[simp] theorem State.restartLine_jobs (l : Fin 32) : (s.restartLine l).jobs = s.jobs := rfl
@[simp] theorem State.restartLine_reverts (l : Fin 32) : (s.restartLine l).reverts = s.reverts := rfl
@[simp] theorem State.restartLine_battery (l : Fin 32) : (s.restartLine l).battery = s.battery := rfl
@[simp] theorem State.restartLine_reference (l : Fin 32) : (s.restartLine l).reference = s.reference := rfl
@[simp] theorem State.restartLine_serviceA (l : Fin 32) : (s.restartLine l).serviceA = s.serviceA := rfl
@[simp] theorem State.restartLine_serviceB (l : Fin 32) : (s.restartLine l).serviceB = s.serviceB := rfl
@[simp] theorem State.restartLine_ports (l : Fin 32) : (s.restartLine l).ports = s.ports := rfl
@[simp] theorem State.restartLine_faultRecord (l : Fin 32) : (s.restartLine l).faultRecord = s.faultRecord := rfl
@[simp] theorem State.restartLine_missed (l : Fin 32) : (s.restartLine l).missed = s.missed := rfl
@[simp] theorem State.restartLine_causes (l : Fin 32) : (s.restartLine l).causes = s.causes := rfl
@[simp] theorem State.restartLine_source (l : Fin 32) : (s.restartLine l).source = s.source := rfl
@[simp] theorem State.restartLine_takenOver (l : Fin 32) : (s.restartLine l).takenOver = s.takenOver := rfl
@[simp] theorem State.restartLine_heldCapture (l : Fin 32) : (s.restartLine l).heldCapture = s.heldCapture := rfl
@[simp] theorem State.restartLine_resetStage (l : Fin 32) : (s.restartLine l).resetStage = s.resetStage := rfl
@[simp] theorem State.restartLine_image (l : Fin 32) : (s.restartLine l).image = s.image := rfl
@[simp] theorem State.restartLine_save (l : Fin 32) : (s.restartLine l).save = s.save := rfl
@[simp] theorem State.restartLine_freeCount (l : Fin 32) : (s.restartLine l).freeCount = s.freeCount := rfl
@[simp] theorem State.restartLine_pending (l : Fin 32) : (s.restartLine l).pending = s.pending := rfl

/-! ### disableLine -/

@[simp] theorem State.disableLine_phase (l : Fin 32) : (s.disableLine l).phase = s.phase := rfl
@[simp] theorem State.disableLine_pos (l : Fin 32) : (s.disableLine l).pos = s.pos := rfl
@[simp] theorem State.disableLine_stamp (l : Fin 32) : (s.disableLine l).stamp = s.stamp := rfl
@[simp] theorem State.disableLine_stations (l : Fin 32) : (s.disableLine l).stations = s.stations := rfl
@[simp] theorem State.disableLine_patterns (l : Fin 32) : (s.disableLine l).patterns = s.patterns := rfl
@[simp] theorem State.disableLine_feeds (l : Fin 32) : (s.disableLine l).feeds = s.feeds := rfl
@[simp] theorem State.disableLine_policy (l : Fin 32) : (s.disableLine l).policy = s.policy := rfl
@[simp] theorem State.disableLine_jobs (l : Fin 32) : (s.disableLine l).jobs = s.jobs := rfl
@[simp] theorem State.disableLine_reverts (l : Fin 32) : (s.disableLine l).reverts = s.reverts := rfl
@[simp] theorem State.disableLine_battery (l : Fin 32) : (s.disableLine l).battery = s.battery := rfl
@[simp] theorem State.disableLine_reference (l : Fin 32) : (s.disableLine l).reference = s.reference := rfl
@[simp] theorem State.disableLine_serviceA (l : Fin 32) : (s.disableLine l).serviceA = s.serviceA := rfl
@[simp] theorem State.disableLine_serviceB (l : Fin 32) : (s.disableLine l).serviceB = s.serviceB := rfl
@[simp] theorem State.disableLine_ports (l : Fin 32) : (s.disableLine l).ports = s.ports := rfl
@[simp] theorem State.disableLine_faultRecord (l : Fin 32) : (s.disableLine l).faultRecord = s.faultRecord := rfl
@[simp] theorem State.disableLine_missed (l : Fin 32) : (s.disableLine l).missed = s.missed := rfl
@[simp] theorem State.disableLine_causes (l : Fin 32) : (s.disableLine l).causes = s.causes := rfl
@[simp] theorem State.disableLine_source (l : Fin 32) : (s.disableLine l).source = s.source := rfl
@[simp] theorem State.disableLine_takenOver (l : Fin 32) : (s.disableLine l).takenOver = s.takenOver := rfl
@[simp] theorem State.disableLine_heldCapture (l : Fin 32) : (s.disableLine l).heldCapture = s.heldCapture := rfl
@[simp] theorem State.disableLine_resetStage (l : Fin 32) : (s.disableLine l).resetStage = s.resetStage := rfl
@[simp] theorem State.disableLine_image (l : Fin 32) : (s.disableLine l).image = s.image := rfl
@[simp] theorem State.disableLine_save (l : Fin 32) : (s.disableLine l).save = s.save := rfl
@[simp] theorem State.disableLine_freeCount (l : Fin 32) : (s.disableLine l).freeCount = s.freeCount := rfl
@[simp] theorem State.disableLine_pending (l : Fin 32) : (s.disableLine l).pending = s.pending := rfl

end Sys2Proof.Machine
end

