-- ==== Sys2Proof/Laws/Frame.lean ====
section
/-! SUPPORT. One lemma for each field that a branching operation leaves as it was. -/

namespace Sys2Proof.Machine

variable (s : State)

/-! ### setService -/

@[simp] theorem State.setService_phase (p : Port) (v : Service) : (s.setService p v).phase = s.phase := by cases p <;> rfl
@[simp] theorem State.setService_pos (p : Port) (v : Service) : (s.setService p v).pos = s.pos := by cases p <;> rfl
@[simp] theorem State.setService_stamp (p : Port) (v : Service) : (s.setService p v).stamp = s.stamp := by cases p <;> rfl
@[simp] theorem State.setService_lines (p : Port) (v : Service) : (s.setService p v).lines = s.lines := by cases p <;> rfl
@[simp] theorem State.setService_stations (p : Port) (v : Service) : (s.setService p v).stations = s.stations := by cases p <;> rfl
@[simp] theorem State.setService_patterns (p : Port) (v : Service) : (s.setService p v).patterns = s.patterns := by cases p <;> rfl
@[simp] theorem State.setService_feeds (p : Port) (v : Service) : (s.setService p v).feeds = s.feeds := by cases p <;> rfl
@[simp] theorem State.setService_policy (p : Port) (v : Service) : (s.setService p v).policy = s.policy := by cases p <;> rfl
@[simp] theorem State.setService_jobs (p : Port) (v : Service) : (s.setService p v).jobs = s.jobs := by cases p <;> rfl
@[simp] theorem State.setService_reverts (p : Port) (v : Service) : (s.setService p v).reverts = s.reverts := by cases p <;> rfl
@[simp] theorem State.setService_findings (p : Port) (v : Service) : (s.setService p v).findings = s.findings := by cases p <;> rfl
@[simp] theorem State.setService_battery (p : Port) (v : Service) : (s.setService p v).battery = s.battery := by cases p <;> rfl
@[simp] theorem State.setService_reference (p : Port) (v : Service) : (s.setService p v).reference = s.reference := by cases p <;> rfl
@[simp] theorem State.setService_ports (p : Port) (v : Service) : (s.setService p v).ports = s.ports := by cases p <;> rfl
@[simp] theorem State.setService_faultRecord (p : Port) (v : Service) : (s.setService p v).faultRecord = s.faultRecord := by cases p <;> rfl
@[simp] theorem State.setService_missed (p : Port) (v : Service) : (s.setService p v).missed = s.missed := by cases p <;> rfl
@[simp] theorem State.setService_causes (p : Port) (v : Service) : (s.setService p v).causes = s.causes := by cases p <;> rfl
@[simp] theorem State.setService_source (p : Port) (v : Service) : (s.setService p v).source = s.source := by cases p <;> rfl
@[simp] theorem State.setService_takenOver (p : Port) (v : Service) : (s.setService p v).takenOver = s.takenOver := by cases p <;> rfl
@[simp] theorem State.setService_heldCapture (p : Port) (v : Service) : (s.setService p v).heldCapture = s.heldCapture := by cases p <;> rfl
@[simp] theorem State.setService_resetStage (p : Port) (v : Service) : (s.setService p v).resetStage = s.resetStage := by cases p <;> rfl
@[simp] theorem State.setService_image (p : Port) (v : Service) : (s.setService p v).image = s.image := by cases p <;> rfl
@[simp] theorem State.setService_save (p : Port) (v : Service) : (s.setService p v).save = s.save := by cases p <;> rfl
@[simp] theorem State.setService_freeCount (p : Port) (v : Service) : (s.setService p v).freeCount = s.freeCount := by cases p <;> rfl
@[simp] theorem State.setService_pending (p : Port) (v : Service) : (s.setService p v).pending = s.pending := by cases p <;> rfl

/-! ### noteBurst -/

@[simp] theorem State.noteBurst_phase (f : Feed) (l : Fin 32) (y : Fin 8) : (s.noteBurst f l y).phase = s.phase := rfl
@[simp] theorem State.noteBurst_pos (f : Feed) (l : Fin 32) (y : Fin 8) : (s.noteBurst f l y).pos = s.pos := rfl
@[simp] theorem State.noteBurst_stamp (f : Feed) (l : Fin 32) (y : Fin 8) : (s.noteBurst f l y).stamp = s.stamp := rfl
@[simp] theorem State.noteBurst_lines (f : Feed) (l : Fin 32) (y : Fin 8) : (s.noteBurst f l y).lines = s.lines := rfl
@[simp] theorem State.noteBurst_stations (f : Feed) (l : Fin 32) (y : Fin 8) : (s.noteBurst f l y).stations = s.stations := rfl
@[simp] theorem State.noteBurst_patterns (f : Feed) (l : Fin 32) (y : Fin 8) : (s.noteBurst f l y).patterns = s.patterns := rfl
@[simp] theorem State.noteBurst_policy (f : Feed) (l : Fin 32) (y : Fin 8) : (s.noteBurst f l y).policy = s.policy := rfl
@[simp] theorem State.noteBurst_jobs (f : Feed) (l : Fin 32) (y : Fin 8) : (s.noteBurst f l y).jobs = s.jobs := rfl
@[simp] theorem State.noteBurst_reverts (f : Feed) (l : Fin 32) (y : Fin 8) : (s.noteBurst f l y).reverts = s.reverts := rfl
@[simp] theorem State.noteBurst_findings (f : Feed) (l : Fin 32) (y : Fin 8) : (s.noteBurst f l y).findings = s.findings := rfl
@[simp] theorem State.noteBurst_battery (f : Feed) (l : Fin 32) (y : Fin 8) : (s.noteBurst f l y).battery = s.battery := rfl
@[simp] theorem State.noteBurst_reference (f : Feed) (l : Fin 32) (y : Fin 8) : (s.noteBurst f l y).reference = s.reference := rfl
@[simp] theorem State.noteBurst_serviceA (f : Feed) (l : Fin 32) (y : Fin 8) : (s.noteBurst f l y).serviceA = s.serviceA := rfl
@[simp] theorem State.noteBurst_serviceB (f : Feed) (l : Fin 32) (y : Fin 8) : (s.noteBurst f l y).serviceB = s.serviceB := rfl
@[simp] theorem State.noteBurst_ports (f : Feed) (l : Fin 32) (y : Fin 8) : (s.noteBurst f l y).ports = s.ports := rfl
@[simp] theorem State.noteBurst_faultRecord (f : Feed) (l : Fin 32) (y : Fin 8) : (s.noteBurst f l y).faultRecord = s.faultRecord := rfl
@[simp] theorem State.noteBurst_missed (f : Feed) (l : Fin 32) (y : Fin 8) : (s.noteBurst f l y).missed = s.missed := rfl
@[simp] theorem State.noteBurst_causes (f : Feed) (l : Fin 32) (y : Fin 8) : (s.noteBurst f l y).causes = s.causes := rfl
@[simp] theorem State.noteBurst_source (f : Feed) (l : Fin 32) (y : Fin 8) : (s.noteBurst f l y).source = s.source := rfl
@[simp] theorem State.noteBurst_takenOver (f : Feed) (l : Fin 32) (y : Fin 8) : (s.noteBurst f l y).takenOver = s.takenOver := rfl
@[simp] theorem State.noteBurst_heldCapture (f : Feed) (l : Fin 32) (y : Fin 8) : (s.noteBurst f l y).heldCapture = s.heldCapture := rfl
@[simp] theorem State.noteBurst_resetStage (f : Feed) (l : Fin 32) (y : Fin 8) : (s.noteBurst f l y).resetStage = s.resetStage := rfl
@[simp] theorem State.noteBurst_image (f : Feed) (l : Fin 32) (y : Fin 8) : (s.noteBurst f l y).image = s.image := rfl
@[simp] theorem State.noteBurst_save (f : Feed) (l : Fin 32) (y : Fin 8) : (s.noteBurst f l y).save = s.save := rfl
@[simp] theorem State.noteBurst_freeCount (f : Feed) (l : Fin 32) (y : Fin 8) : (s.noteBurst f l y).freeCount = s.freeCount := rfl
@[simp] theorem State.noteBurst_pending (f : Feed) (l : Fin 32) (y : Fin 8) : (s.noteBurst f l y).pending = s.pending := rfl

/-! ### postPlanes -/

@[simp] theorem State.postPlanes_phase (e : Event) : (s.postPlanes e).phase = s.phase := by
  simp only [State.postPlanes]; split <;> split <;> rfl
@[simp] theorem State.postPlanes_pos (e : Event) : (s.postPlanes e).pos = s.pos := by
  simp only [State.postPlanes]; split <;> split <;> rfl
@[simp] theorem State.postPlanes_stamp (e : Event) : (s.postPlanes e).stamp = s.stamp := by
  simp only [State.postPlanes]; split <;> split <;> rfl
@[simp] theorem State.postPlanes_lines (e : Event) : (s.postPlanes e).lines = s.lines := by
  simp only [State.postPlanes]; split <;> split <;> rfl
@[simp] theorem State.postPlanes_stations (e : Event) : (s.postPlanes e).stations = s.stations := by
  simp only [State.postPlanes]; split <;> split <;> rfl
@[simp] theorem State.postPlanes_patterns (e : Event) : (s.postPlanes e).patterns = s.patterns := by
  simp only [State.postPlanes]; split <;> split <;> rfl
@[simp] theorem State.postPlanes_feeds (e : Event) : (s.postPlanes e).feeds = s.feeds := by
  simp only [State.postPlanes]; split <;> split <;> rfl
@[simp] theorem State.postPlanes_policy (e : Event) : (s.postPlanes e).policy = s.policy := by
  simp only [State.postPlanes]; split <;> split <;> rfl
@[simp] theorem State.postPlanes_jobs (e : Event) : (s.postPlanes e).jobs = s.jobs := by
  simp only [State.postPlanes]; split <;> split <;> rfl
@[simp] theorem State.postPlanes_reverts (e : Event) : (s.postPlanes e).reverts = s.reverts := by
  simp only [State.postPlanes]; split <;> split <;> rfl
@[simp] theorem State.postPlanes_findings (e : Event) : (s.postPlanes e).findings = s.findings := by
  simp only [State.postPlanes]; split <;> split <;> rfl
@[simp] theorem State.postPlanes_battery (e : Event) : (s.postPlanes e).battery = s.battery := by
  simp only [State.postPlanes]; split <;> split <;> rfl
@[simp] theorem State.postPlanes_reference (e : Event) : (s.postPlanes e).reference = s.reference := by
  simp only [State.postPlanes]; split <;> split <;> rfl
@[simp] theorem State.postPlanes_serviceA (e : Event) : (s.postPlanes e).serviceA = s.serviceA := by
  simp only [State.postPlanes]; split <;> split <;> rfl
@[simp] theorem State.postPlanes_serviceB (e : Event) : (s.postPlanes e).serviceB = s.serviceB := by
  simp only [State.postPlanes]; split <;> split <;> rfl
@[simp] theorem State.postPlanes_faultRecord (e : Event) : (s.postPlanes e).faultRecord = s.faultRecord := by
  simp only [State.postPlanes]; split <;> split <;> rfl
@[simp] theorem State.postPlanes_missed (e : Event) : (s.postPlanes e).missed = s.missed := by
  simp only [State.postPlanes]; split <;> split <;> rfl
@[simp] theorem State.postPlanes_causes (e : Event) : (s.postPlanes e).causes = s.causes := by
  simp only [State.postPlanes]; split <;> split <;> rfl
@[simp] theorem State.postPlanes_source (e : Event) : (s.postPlanes e).source = s.source := by
  simp only [State.postPlanes]; split <;> split <;> rfl
@[simp] theorem State.postPlanes_takenOver (e : Event) : (s.postPlanes e).takenOver = s.takenOver := by
  simp only [State.postPlanes]; split <;> split <;> rfl
@[simp] theorem State.postPlanes_heldCapture (e : Event) : (s.postPlanes e).heldCapture = s.heldCapture := by
  simp only [State.postPlanes]; split <;> split <;> rfl
@[simp] theorem State.postPlanes_resetStage (e : Event) : (s.postPlanes e).resetStage = s.resetStage := by
  simp only [State.postPlanes]; split <;> split <;> rfl
@[simp] theorem State.postPlanes_image (e : Event) : (s.postPlanes e).image = s.image := by
  simp only [State.postPlanes]; split <;> split <;> rfl
@[simp] theorem State.postPlanes_save (e : Event) : (s.postPlanes e).save = s.save := by
  simp only [State.postPlanes]; split <;> split <;> rfl
@[simp] theorem State.postPlanes_freeCount (e : Event) : (s.postPlanes e).freeCount = s.freeCount := by
  simp only [State.postPlanes]; split <;> split <;> rfl
@[simp] theorem State.postPlanes_pending (e : Event) : (s.postPlanes e).pending = s.pending := by
  simp only [State.postPlanes]; split <;> split <;> rfl

/-! ### postAll -/

@[simp] theorem State.postAll_phase (e : Event) : (s.postAll e).phase = s.phase := by simp [State.postAll]
@[simp] theorem State.postAll_pos (e : Event) : (s.postAll e).pos = s.pos := by simp [State.postAll]
@[simp] theorem State.postAll_stamp (e : Event) : (s.postAll e).stamp = s.stamp := by simp [State.postAll]
@[simp] theorem State.postAll_lines (e : Event) : (s.postAll e).lines = s.lines := by simp [State.postAll]
@[simp] theorem State.postAll_stations (e : Event) : (s.postAll e).stations = s.stations := by simp [State.postAll]
@[simp] theorem State.postAll_patterns (e : Event) : (s.postAll e).patterns = s.patterns := by simp [State.postAll]
@[simp] theorem State.postAll_feeds (e : Event) : (s.postAll e).feeds = s.feeds := by simp [State.postAll]
@[simp] theorem State.postAll_policy (e : Event) : (s.postAll e).policy = s.policy := by simp [State.postAll]
@[simp] theorem State.postAll_jobs (e : Event) : (s.postAll e).jobs = s.jobs := by simp [State.postAll]
@[simp] theorem State.postAll_reverts (e : Event) : (s.postAll e).reverts = s.reverts := by simp [State.postAll]
@[simp] theorem State.postAll_findings (e : Event) : (s.postAll e).findings = s.findings := by simp [State.postAll]
@[simp] theorem State.postAll_battery (e : Event) : (s.postAll e).battery = s.battery := by simp [State.postAll]
@[simp] theorem State.postAll_reference (e : Event) : (s.postAll e).reference = s.reference := by simp [State.postAll]
@[simp] theorem State.postAll_serviceA (e : Event) : (s.postAll e).serviceA = s.serviceA := by simp [State.postAll]
@[simp] theorem State.postAll_serviceB (e : Event) : (s.postAll e).serviceB = s.serviceB := by simp [State.postAll]
@[simp] theorem State.postAll_faultRecord (e : Event) : (s.postAll e).faultRecord = s.faultRecord := by simp [State.postAll]
@[simp] theorem State.postAll_missed (e : Event) : (s.postAll e).missed = s.missed := by simp [State.postAll]
@[simp] theorem State.postAll_causes (e : Event) : (s.postAll e).causes = s.causes := by simp [State.postAll]
@[simp] theorem State.postAll_source (e : Event) : (s.postAll e).source = s.source := by simp [State.postAll]
@[simp] theorem State.postAll_takenOver (e : Event) : (s.postAll e).takenOver = s.takenOver := by simp [State.postAll]
@[simp] theorem State.postAll_heldCapture (e : Event) : (s.postAll e).heldCapture = s.heldCapture := by simp [State.postAll]
@[simp] theorem State.postAll_resetStage (e : Event) : (s.postAll e).resetStage = s.resetStage := by simp [State.postAll]
@[simp] theorem State.postAll_image (e : Event) : (s.postAll e).image = s.image := by simp [State.postAll]
@[simp] theorem State.postAll_save (e : Event) : (s.postAll e).save = s.save := by simp [State.postAll]
@[simp] theorem State.postAll_freeCount (e : Event) : (s.postAll e).freeCount = s.freeCount := by simp [State.postAll]
@[simp] theorem State.postAll_pending (e : Event) : (s.postAll e).pending = s.pending := by simp [State.postAll]

/-! ### postOwner -/

@[simp] theorem State.postOwner_phase (l : Fin 32) (e : Event) : (s.postOwner l e).phase = s.phase := by
  simp only [State.postOwner]; split <;> rfl
@[simp] theorem State.postOwner_pos (l : Fin 32) (e : Event) : (s.postOwner l e).pos = s.pos := by
  simp only [State.postOwner]; split <;> rfl
@[simp] theorem State.postOwner_stamp (l : Fin 32) (e : Event) : (s.postOwner l e).stamp = s.stamp := by
  simp only [State.postOwner]; split <;> rfl
@[simp] theorem State.postOwner_lines (l : Fin 32) (e : Event) : (s.postOwner l e).lines = s.lines := by
  simp only [State.postOwner]; split <;> rfl
@[simp] theorem State.postOwner_stations (l : Fin 32) (e : Event) : (s.postOwner l e).stations = s.stations := by
  simp only [State.postOwner]; split <;> rfl
@[simp] theorem State.postOwner_patterns (l : Fin 32) (e : Event) : (s.postOwner l e).patterns = s.patterns := by
  simp only [State.postOwner]; split <;> rfl
@[simp] theorem State.postOwner_feeds (l : Fin 32) (e : Event) : (s.postOwner l e).feeds = s.feeds := by
  simp only [State.postOwner]; split <;> rfl
@[simp] theorem State.postOwner_policy (l : Fin 32) (e : Event) : (s.postOwner l e).policy = s.policy := by
  simp only [State.postOwner]; split <;> rfl
@[simp] theorem State.postOwner_jobs (l : Fin 32) (e : Event) : (s.postOwner l e).jobs = s.jobs := by
  simp only [State.postOwner]; split <;> rfl
@[simp] theorem State.postOwner_reverts (l : Fin 32) (e : Event) : (s.postOwner l e).reverts = s.reverts := by
  simp only [State.postOwner]; split <;> rfl
@[simp] theorem State.postOwner_findings (l : Fin 32) (e : Event) : (s.postOwner l e).findings = s.findings := by
  simp only [State.postOwner]; split <;> rfl
@[simp] theorem State.postOwner_battery (l : Fin 32) (e : Event) : (s.postOwner l e).battery = s.battery := by
  simp only [State.postOwner]; split <;> rfl
@[simp] theorem State.postOwner_reference (l : Fin 32) (e : Event) : (s.postOwner l e).reference = s.reference := by
  simp only [State.postOwner]; split <;> rfl
@[simp] theorem State.postOwner_serviceA (l : Fin 32) (e : Event) : (s.postOwner l e).serviceA = s.serviceA := by
  simp only [State.postOwner]; split <;> rfl
@[simp] theorem State.postOwner_serviceB (l : Fin 32) (e : Event) : (s.postOwner l e).serviceB = s.serviceB := by
  simp only [State.postOwner]; split <;> rfl
@[simp] theorem State.postOwner_faultRecord (l : Fin 32) (e : Event) : (s.postOwner l e).faultRecord = s.faultRecord := by
  simp only [State.postOwner]; split <;> rfl
@[simp] theorem State.postOwner_missed (l : Fin 32) (e : Event) : (s.postOwner l e).missed = s.missed := by
  simp only [State.postOwner]; split <;> rfl
@[simp] theorem State.postOwner_causes (l : Fin 32) (e : Event) : (s.postOwner l e).causes = s.causes := by
  simp only [State.postOwner]; split <;> rfl
@[simp] theorem State.postOwner_source (l : Fin 32) (e : Event) : (s.postOwner l e).source = s.source := by
  simp only [State.postOwner]; split <;> rfl
@[simp] theorem State.postOwner_takenOver (l : Fin 32) (e : Event) : (s.postOwner l e).takenOver = s.takenOver := by
  simp only [State.postOwner]; split <;> rfl
@[simp] theorem State.postOwner_heldCapture (l : Fin 32) (e : Event) : (s.postOwner l e).heldCapture = s.heldCapture := by
  simp only [State.postOwner]; split <;> rfl
@[simp] theorem State.postOwner_resetStage (l : Fin 32) (e : Event) : (s.postOwner l e).resetStage = s.resetStage := by
  simp only [State.postOwner]; split <;> rfl
@[simp] theorem State.postOwner_image (l : Fin 32) (e : Event) : (s.postOwner l e).image = s.image := by
  simp only [State.postOwner]; split <;> rfl
@[simp] theorem State.postOwner_save (l : Fin 32) (e : Event) : (s.postOwner l e).save = s.save := by
  simp only [State.postOwner]; split <;> rfl
@[simp] theorem State.postOwner_freeCount (l : Fin 32) (e : Event) : (s.postOwner l e).freeCount = s.freeCount := by
  simp only [State.postOwner]; split <;> rfl
@[simp] theorem State.postOwner_pending (l : Fin 32) (e : Event) : (s.postOwner l e).pending = s.pending := by
  simp only [State.postOwner]; split <;> rfl

/-! ### capture -/

@[simp] theorem State.capture_phase (k : FaultKind) (f : Option Feed) (l : Option (Fin 32)) : (s.capture k f l).phase = s.phase := by
  simp only [State.capture]; split <;> rfl
@[simp] theorem State.capture_pos (k : FaultKind) (f : Option Feed) (l : Option (Fin 32)) : (s.capture k f l).pos = s.pos := by
  simp only [State.capture]; split <;> rfl
@[simp] theorem State.capture_stamp (k : FaultKind) (f : Option Feed) (l : Option (Fin 32)) : (s.capture k f l).stamp = s.stamp := by
  simp only [State.capture]; split <;> rfl
@[simp] theorem State.capture_lines (k : FaultKind) (f : Option Feed) (l : Option (Fin 32)) : (s.capture k f l).lines = s.lines := by
  simp only [State.capture]; split <;> rfl
@[simp] theorem State.capture_stations (k : FaultKind) (f : Option Feed) (l : Option (Fin 32)) : (s.capture k f l).stations = s.stations := by
  simp only [State.capture]; split <;> rfl
@[simp] theorem State.capture_patterns (k : FaultKind) (f : Option Feed) (l : Option (Fin 32)) : (s.capture k f l).patterns = s.patterns := by
  simp only [State.capture]; split <;> rfl
@[simp] theorem State.capture_feeds (k : FaultKind) (f : Option Feed) (l : Option (Fin 32)) : (s.capture k f l).feeds = s.feeds := by
  simp only [State.capture]; split <;> rfl
@[simp] theorem State.capture_policy (k : FaultKind) (f : Option Feed) (l : Option (Fin 32)) : (s.capture k f l).policy = s.policy := by
  simp only [State.capture]; split <;> rfl
@[simp] theorem State.capture_jobs (k : FaultKind) (f : Option Feed) (l : Option (Fin 32)) : (s.capture k f l).jobs = s.jobs := by
  simp only [State.capture]; split <;> rfl
@[simp] theorem State.capture_reverts (k : FaultKind) (f : Option Feed) (l : Option (Fin 32)) : (s.capture k f l).reverts = s.reverts := by
  simp only [State.capture]; split <;> rfl
@[simp] theorem State.capture_findings (k : FaultKind) (f : Option Feed) (l : Option (Fin 32)) : (s.capture k f l).findings = s.findings := by
  simp only [State.capture]; split <;> rfl
@[simp] theorem State.capture_battery (k : FaultKind) (f : Option Feed) (l : Option (Fin 32)) : (s.capture k f l).battery = s.battery := by
  simp only [State.capture]; split <;> rfl
@[simp] theorem State.capture_reference (k : FaultKind) (f : Option Feed) (l : Option (Fin 32)) : (s.capture k f l).reference = s.reference := by
  simp only [State.capture]; split <;> rfl
@[simp] theorem State.capture_serviceA (k : FaultKind) (f : Option Feed) (l : Option (Fin 32)) : (s.capture k f l).serviceA = s.serviceA := by
  simp only [State.capture]; split <;> rfl
@[simp] theorem State.capture_serviceB (k : FaultKind) (f : Option Feed) (l : Option (Fin 32)) : (s.capture k f l).serviceB = s.serviceB := by
  simp only [State.capture]; split <;> rfl
@[simp] theorem State.capture_causes (k : FaultKind) (f : Option Feed) (l : Option (Fin 32)) : (s.capture k f l).causes = s.causes := by
  simp only [State.capture]; split <;> rfl
@[simp] theorem State.capture_source (k : FaultKind) (f : Option Feed) (l : Option (Fin 32)) : (s.capture k f l).source = s.source := by
  simp only [State.capture]; split <;> rfl
@[simp] theorem State.capture_takenOver (k : FaultKind) (f : Option Feed) (l : Option (Fin 32)) : (s.capture k f l).takenOver = s.takenOver := by
  simp only [State.capture]; split <;> rfl
@[simp] theorem State.capture_heldCapture (k : FaultKind) (f : Option Feed) (l : Option (Fin 32)) : (s.capture k f l).heldCapture = s.heldCapture := by
  simp only [State.capture]; split <;> rfl
@[simp] theorem State.capture_resetStage (k : FaultKind) (f : Option Feed) (l : Option (Fin 32)) : (s.capture k f l).resetStage = s.resetStage := by
  simp only [State.capture]; split <;> rfl
@[simp] theorem State.capture_image (k : FaultKind) (f : Option Feed) (l : Option (Fin 32)) : (s.capture k f l).image = s.image := by
  simp only [State.capture]; split <;> rfl
@[simp] theorem State.capture_save (k : FaultKind) (f : Option Feed) (l : Option (Fin 32)) : (s.capture k f l).save = s.save := by
  simp only [State.capture]; split <;> rfl
@[simp] theorem State.capture_freeCount (k : FaultKind) (f : Option Feed) (l : Option (Fin 32)) : (s.capture k f l).freeCount = s.freeCount := by
  simp only [State.capture]; split <;> rfl
@[simp] theorem State.capture_pending (k : FaultKind) (f : Option Feed) (l : Option (Fin 32)) : (s.capture k f l).pending = s.pending := by
  simp only [State.capture]; split <;> rfl

/-! ### abandonOrigination -/

@[simp] theorem State.abandonOrigination_phase (l : Fin 32) : (s.abandonOrigination l).phase = s.phase := by simp [State.abandonOrigination]
@[simp] theorem State.abandonOrigination_pos (l : Fin 32) : (s.abandonOrigination l).pos = s.pos := by simp [State.abandonOrigination]
@[simp] theorem State.abandonOrigination_stamp (l : Fin 32) : (s.abandonOrigination l).stamp = s.stamp := by simp [State.abandonOrigination]
@[simp] theorem State.abandonOrigination_lines (l : Fin 32) : (s.abandonOrigination l).lines = s.lines := by simp [State.abandonOrigination]
@[simp] theorem State.abandonOrigination_stations (l : Fin 32) : (s.abandonOrigination l).stations = s.stations := by simp [State.abandonOrigination]
@[simp] theorem State.abandonOrigination_patterns (l : Fin 32) : (s.abandonOrigination l).patterns = s.patterns := by simp [State.abandonOrigination]
@[simp] theorem State.abandonOrigination_feeds (l : Fin 32) : (s.abandonOrigination l).feeds = s.feeds := by simp [State.abandonOrigination]
@[simp] theorem State.abandonOrigination_policy (l : Fin 32) : (s.abandonOrigination l).policy = s.policy := by simp [State.abandonOrigination]
@[simp] theorem State.abandonOrigination_jobs (l : Fin 32) : (s.abandonOrigination l).jobs = s.jobs := by simp [State.abandonOrigination]
@[simp] theorem State.abandonOrigination_reverts (l : Fin 32) : (s.abandonOrigination l).reverts = s.reverts := by simp [State.abandonOrigination]
@[simp] theorem State.abandonOrigination_findings (l : Fin 32) : (s.abandonOrigination l).findings = s.findings := by simp [State.abandonOrigination]
@[simp] theorem State.abandonOrigination_battery (l : Fin 32) : (s.abandonOrigination l).battery = s.battery := by simp [State.abandonOrigination]
@[simp] theorem State.abandonOrigination_reference (l : Fin 32) : (s.abandonOrigination l).reference = s.reference := by simp [State.abandonOrigination]
@[simp] theorem State.abandonOrigination_serviceA (l : Fin 32) : (s.abandonOrigination l).serviceA = s.serviceA := by simp [State.abandonOrigination]
@[simp] theorem State.abandonOrigination_serviceB (l : Fin 32) : (s.abandonOrigination l).serviceB = s.serviceB := by simp [State.abandonOrigination]
@[simp] theorem State.abandonOrigination_faultRecord (l : Fin 32) : (s.abandonOrigination l).faultRecord = s.faultRecord := by simp [State.abandonOrigination]
@[simp] theorem State.abandonOrigination_missed (l : Fin 32) : (s.abandonOrigination l).missed = s.missed := by simp [State.abandonOrigination]
@[simp] theorem State.abandonOrigination_causes (l : Fin 32) : (s.abandonOrigination l).causes = s.causes := by simp [State.abandonOrigination]
@[simp] theorem State.abandonOrigination_source (l : Fin 32) : (s.abandonOrigination l).source = s.source := by simp [State.abandonOrigination]
@[simp] theorem State.abandonOrigination_takenOver (l : Fin 32) : (s.abandonOrigination l).takenOver = s.takenOver := by simp [State.abandonOrigination]
@[simp] theorem State.abandonOrigination_heldCapture (l : Fin 32) : (s.abandonOrigination l).heldCapture = s.heldCapture := by simp [State.abandonOrigination]
@[simp] theorem State.abandonOrigination_resetStage (l : Fin 32) : (s.abandonOrigination l).resetStage = s.resetStage := by simp [State.abandonOrigination]
@[simp] theorem State.abandonOrigination_image (l : Fin 32) : (s.abandonOrigination l).image = s.image := by simp [State.abandonOrigination]
@[simp] theorem State.abandonOrigination_save (l : Fin 32) : (s.abandonOrigination l).save = s.save := by simp [State.abandonOrigination]
@[simp] theorem State.abandonOrigination_freeCount (l : Fin 32) : (s.abandonOrigination l).freeCount = s.freeCount := by simp [State.abandonOrigination]
@[simp] theorem State.abandonOrigination_pending (l : Fin 32) : (s.abandonOrigination l).pending = s.pending := by simp [State.abandonOrigination]

/-! ### raiseOrigination -/

@[simp] theorem State.raiseOrigination_phase (l : Fin 32) : (s.raiseOrigination l).phase = s.phase := by simp [State.raiseOrigination]
@[simp] theorem State.raiseOrigination_pos (l : Fin 32) : (s.raiseOrigination l).pos = s.pos := by simp [State.raiseOrigination]
@[simp] theorem State.raiseOrigination_stamp (l : Fin 32) : (s.raiseOrigination l).stamp = s.stamp := by simp [State.raiseOrigination]
@[simp] theorem State.raiseOrigination_stations (l : Fin 32) : (s.raiseOrigination l).stations = s.stations := by simp [State.raiseOrigination]
@[simp] theorem State.raiseOrigination_patterns (l : Fin 32) : (s.raiseOrigination l).patterns = s.patterns := by simp [State.raiseOrigination]
@[simp] theorem State.raiseOrigination_feeds (l : Fin 32) : (s.raiseOrigination l).feeds = s.feeds := by simp [State.raiseOrigination]
@[simp] theorem State.raiseOrigination_policy (l : Fin 32) : (s.raiseOrigination l).policy = s.policy := by simp [State.raiseOrigination]
@[simp] theorem State.raiseOrigination_jobs (l : Fin 32) : (s.raiseOrigination l).jobs = s.jobs := by simp [State.raiseOrigination]
@[simp] theorem State.raiseOrigination_reverts (l : Fin 32) : (s.raiseOrigination l).reverts = s.reverts := by simp [State.raiseOrigination]
@[simp] theorem State.raiseOrigination_findings (l : Fin 32) : (s.raiseOrigination l).findings = s.findings := by simp [State.raiseOrigination]
@[simp] theorem State.raiseOrigination_battery (l : Fin 32) : (s.raiseOrigination l).battery = s.battery := by simp [State.raiseOrigination]
@[simp] theorem State.raiseOrigination_reference (l : Fin 32) : (s.raiseOrigination l).reference = s.reference := by simp [State.raiseOrigination]
@[simp] theorem State.raiseOrigination_serviceA (l : Fin 32) : (s.raiseOrigination l).serviceA = s.serviceA := by simp [State.raiseOrigination]
@[simp] theorem State.raiseOrigination_serviceB (l : Fin 32) : (s.raiseOrigination l).serviceB = s.serviceB := by simp [State.raiseOrigination]
@[simp] theorem State.raiseOrigination_faultRecord (l : Fin 32) : (s.raiseOrigination l).faultRecord = s.faultRecord := by simp [State.raiseOrigination]
@[simp] theorem State.raiseOrigination_missed (l : Fin 32) : (s.raiseOrigination l).missed = s.missed := by simp [State.raiseOrigination]
@[simp] theorem State.raiseOrigination_causes (l : Fin 32) : (s.raiseOrigination l).causes = s.causes := by simp [State.raiseOrigination]
@[simp] theorem State.raiseOrigination_source (l : Fin 32) : (s.raiseOrigination l).source = s.source := by simp [State.raiseOrigination]
@[simp] theorem State.raiseOrigination_takenOver (l : Fin 32) : (s.raiseOrigination l).takenOver = s.takenOver := by simp [State.raiseOrigination]
@[simp] theorem State.raiseOrigination_heldCapture (l : Fin 32) : (s.raiseOrigination l).heldCapture = s.heldCapture := by simp [State.raiseOrigination]
@[simp] theorem State.raiseOrigination_resetStage (l : Fin 32) : (s.raiseOrigination l).resetStage = s.resetStage := by simp [State.raiseOrigination]
@[simp] theorem State.raiseOrigination_image (l : Fin 32) : (s.raiseOrigination l).image = s.image := by simp [State.raiseOrigination]
@[simp] theorem State.raiseOrigination_save (l : Fin 32) : (s.raiseOrigination l).save = s.save := by simp [State.raiseOrigination]
@[simp] theorem State.raiseOrigination_freeCount (l : Fin 32) : (s.raiseOrigination l).freeCount = s.freeCount := by simp [State.raiseOrigination]
@[simp] theorem State.raiseOrigination_pending (l : Fin 32) : (s.raiseOrigination l).pending = s.pending := by simp [State.raiseOrigination]

/-! ### reportEnding -/

@[simp] theorem State.reportEnding_phase (l : Fin 32) (e : Ending) : (s.reportEnding l e).phase = s.phase := by
  simp only [State.reportEnding]; split <;> try split <;> try simp
  all_goals simp
@[simp] theorem State.reportEnding_pos (l : Fin 32) (e : Ending) : (s.reportEnding l e).pos = s.pos := by
  simp only [State.reportEnding]; split <;> try split <;> try simp
  all_goals simp
@[simp] theorem State.reportEnding_stamp (l : Fin 32) (e : Ending) : (s.reportEnding l e).stamp = s.stamp := by
  simp only [State.reportEnding]; split <;> try split <;> try simp
  all_goals simp
@[simp] theorem State.reportEnding_lines (l : Fin 32) (e : Ending) : (s.reportEnding l e).lines = s.lines := by
  simp only [State.reportEnding]; split <;> try split <;> try simp
  all_goals simp
@[simp] theorem State.reportEnding_stations (l : Fin 32) (e : Ending) : (s.reportEnding l e).stations = s.stations := by
  simp only [State.reportEnding]; split <;> try split <;> try simp
  all_goals simp
@[simp] theorem State.reportEnding_patterns (l : Fin 32) (e : Ending) : (s.reportEnding l e).patterns = s.patterns := by
  simp only [State.reportEnding]; split <;> try split <;> try simp
  all_goals simp
@[simp] theorem State.reportEnding_feeds (l : Fin 32) (e : Ending) : (s.reportEnding l e).feeds = s.feeds := by
  simp only [State.reportEnding]; split <;> try split <;> try simp
  all_goals simp
@[simp] theorem State.reportEnding_policy (l : Fin 32) (e : Ending) : (s.reportEnding l e).policy = s.policy := by
  simp only [State.reportEnding]; split <;> try split <;> try simp
  all_goals simp
@[simp] theorem State.reportEnding_jobs (l : Fin 32) (e : Ending) : (s.reportEnding l e).jobs = s.jobs := by
  simp only [State.reportEnding]; split <;> try split <;> try simp
  all_goals simp
@[simp] theorem State.reportEnding_reverts (l : Fin 32) (e : Ending) : (s.reportEnding l e).reverts = s.reverts := by
  simp only [State.reportEnding]; split <;> try split <;> try simp
  all_goals simp
@[simp] theorem State.reportEnding_findings (l : Fin 32) (e : Ending) : (s.reportEnding l e).findings = s.findings := by
  simp only [State.reportEnding]; split <;> try split <;> try simp
  all_goals simp
@[simp] theorem State.reportEnding_battery (l : Fin 32) (e : Ending) : (s.reportEnding l e).battery = s.battery := by
  simp only [State.reportEnding]; split <;> try split <;> try simp
  all_goals simp
@[simp] theorem State.reportEnding_reference (l : Fin 32) (e : Ending) : (s.reportEnding l e).reference = s.reference := by
  simp only [State.reportEnding]; split <;> try split <;> try simp
  all_goals simp
@[simp] theorem State.reportEnding_serviceA (l : Fin 32) (e : Ending) : (s.reportEnding l e).serviceA = s.serviceA := by
  simp only [State.reportEnding]; split <;> try split <;> try simp
  all_goals simp
@[simp] theorem State.reportEnding_serviceB (l : Fin 32) (e : Ending) : (s.reportEnding l e).serviceB = s.serviceB := by
  simp only [State.reportEnding]; split <;> try split <;> try simp
  all_goals simp
@[simp] theorem State.reportEnding_faultRecord (l : Fin 32) (e : Ending) : (s.reportEnding l e).faultRecord = s.faultRecord := by
  simp only [State.reportEnding]; split <;> try split <;> try simp
  all_goals simp
@[simp] theorem State.reportEnding_missed (l : Fin 32) (e : Ending) : (s.reportEnding l e).missed = s.missed := by
  simp only [State.reportEnding]; split <;> try split <;> try simp
  all_goals simp
@[simp] theorem State.reportEnding_causes (l : Fin 32) (e : Ending) : (s.reportEnding l e).causes = s.causes := by
  simp only [State.reportEnding]; split <;> try split <;> try simp
  all_goals simp
@[simp] theorem State.reportEnding_source (l : Fin 32) (e : Ending) : (s.reportEnding l e).source = s.source := by
  simp only [State.reportEnding]; split <;> try split <;> try simp
  all_goals simp
@[simp] theorem State.reportEnding_takenOver (l : Fin 32) (e : Ending) : (s.reportEnding l e).takenOver = s.takenOver := by
  simp only [State.reportEnding]; split <;> try split <;> try simp
  all_goals simp
@[simp] theorem State.reportEnding_heldCapture (l : Fin 32) (e : Ending) : (s.reportEnding l e).heldCapture = s.heldCapture := by
  simp only [State.reportEnding]; split <;> try split <;> try simp
  all_goals simp
@[simp] theorem State.reportEnding_resetStage (l : Fin 32) (e : Ending) : (s.reportEnding l e).resetStage = s.resetStage := by
  simp only [State.reportEnding]; split <;> try split <;> try simp
  all_goals simp
@[simp] theorem State.reportEnding_image (l : Fin 32) (e : Ending) : (s.reportEnding l e).image = s.image := by
  simp only [State.reportEnding]; split <;> try split <;> try simp
  all_goals simp
@[simp] theorem State.reportEnding_save (l : Fin 32) (e : Ending) : (s.reportEnding l e).save = s.save := by
  simp only [State.reportEnding]; split <;> try split <;> try simp
  all_goals simp
@[simp] theorem State.reportEnding_freeCount (l : Fin 32) (e : Ending) : (s.reportEnding l e).freeCount = s.freeCount := by
  simp only [State.reportEnding]; split <;> try split <;> try simp
  all_goals simp
@[simp] theorem State.reportEnding_pending (l : Fin 32) (e : Ending) : (s.reportEnding l e).pending = s.pending := by
  simp only [State.reportEnding]; split <;> try split <;> try simp
  all_goals simp

/-! ### releaseIf -/

@[simp] theorem State.releaseIf_phase (b : Bool) (l : Fin 32) : (s.releaseIf b l).phase = s.phase := by
  cases b <;> rfl
@[simp] theorem State.releaseIf_pos (b : Bool) (l : Fin 32) : (s.releaseIf b l).pos = s.pos := by
  cases b <;> rfl
@[simp] theorem State.releaseIf_stamp (b : Bool) (l : Fin 32) : (s.releaseIf b l).stamp = s.stamp := by
  cases b <;> rfl
@[simp] theorem State.releaseIf_stations (b : Bool) (l : Fin 32) : (s.releaseIf b l).stations = s.stations := by
  cases b <;> rfl
@[simp] theorem State.releaseIf_patterns (b : Bool) (l : Fin 32) : (s.releaseIf b l).patterns = s.patterns := by
  cases b <;> rfl
@[simp] theorem State.releaseIf_feeds (b : Bool) (l : Fin 32) : (s.releaseIf b l).feeds = s.feeds := by
  cases b <;> rfl
@[simp] theorem State.releaseIf_policy (b : Bool) (l : Fin 32) : (s.releaseIf b l).policy = s.policy := by
  cases b <;> rfl
@[simp] theorem State.releaseIf_jobs (b : Bool) (l : Fin 32) : (s.releaseIf b l).jobs = s.jobs := by
  cases b <;> rfl
@[simp] theorem State.releaseIf_reverts (b : Bool) (l : Fin 32) : (s.releaseIf b l).reverts = s.reverts := by
  cases b <;> rfl
@[simp] theorem State.releaseIf_findings (b : Bool) (l : Fin 32) : (s.releaseIf b l).findings = s.findings := by
  cases b <;> rfl
@[simp] theorem State.releaseIf_battery (b : Bool) (l : Fin 32) : (s.releaseIf b l).battery = s.battery := by
  cases b <;> rfl
@[simp] theorem State.releaseIf_reference (b : Bool) (l : Fin 32) : (s.releaseIf b l).reference = s.reference := by
  cases b <;> rfl
@[simp] theorem State.releaseIf_serviceA (b : Bool) (l : Fin 32) : (s.releaseIf b l).serviceA = s.serviceA := by
  cases b <;> rfl
@[simp] theorem State.releaseIf_serviceB (b : Bool) (l : Fin 32) : (s.releaseIf b l).serviceB = s.serviceB := by
  cases b <;> rfl
@[simp] theorem State.releaseIf_ports (b : Bool) (l : Fin 32) : (s.releaseIf b l).ports = s.ports := by
  cases b <;> rfl
@[simp] theorem State.releaseIf_faultRecord (b : Bool) (l : Fin 32) : (s.releaseIf b l).faultRecord = s.faultRecord := by
  cases b <;> rfl
@[simp] theorem State.releaseIf_missed (b : Bool) (l : Fin 32) : (s.releaseIf b l).missed = s.missed := by
  cases b <;> rfl
@[simp] theorem State.releaseIf_causes (b : Bool) (l : Fin 32) : (s.releaseIf b l).causes = s.causes := by
  cases b <;> rfl
@[simp] theorem State.releaseIf_source (b : Bool) (l : Fin 32) : (s.releaseIf b l).source = s.source := by
  cases b <;> rfl
@[simp] theorem State.releaseIf_takenOver (b : Bool) (l : Fin 32) : (s.releaseIf b l).takenOver = s.takenOver := by
  cases b <;> rfl
@[simp] theorem State.releaseIf_heldCapture (b : Bool) (l : Fin 32) : (s.releaseIf b l).heldCapture = s.heldCapture := by
  cases b <;> rfl
@[simp] theorem State.releaseIf_resetStage (b : Bool) (l : Fin 32) : (s.releaseIf b l).resetStage = s.resetStage := by
  cases b <;> rfl
@[simp] theorem State.releaseIf_image (b : Bool) (l : Fin 32) : (s.releaseIf b l).image = s.image := by
  cases b <;> rfl
@[simp] theorem State.releaseIf_save (b : Bool) (l : Fin 32) : (s.releaseIf b l).save = s.save := by
  cases b <;> rfl
@[simp] theorem State.releaseIf_freeCount (b : Bool) (l : Fin 32) : (s.releaseIf b l).freeCount = s.freeCount := by
  cases b <;> rfl
@[simp] theorem State.releaseIf_pending (b : Bool) (l : Fin 32) : (s.releaseIf b l).pending = s.pending := by
  cases b <;> rfl

/-! ### endCall -/

@[simp] theorem State.endCall_phase (l : Fin 32) (e : Ending) (b : Bool) : (s.endCall l e b).phase = s.phase := by simp [State.endCall]
@[simp] theorem State.endCall_pos (l : Fin 32) (e : Ending) (b : Bool) : (s.endCall l e b).pos = s.pos := by simp [State.endCall]
@[simp] theorem State.endCall_stamp (l : Fin 32) (e : Ending) (b : Bool) : (s.endCall l e b).stamp = s.stamp := by simp [State.endCall]
@[simp] theorem State.endCall_stations (l : Fin 32) (e : Ending) (b : Bool) : (s.endCall l e b).stations = s.stations := by simp [State.endCall]
@[simp] theorem State.endCall_patterns (l : Fin 32) (e : Ending) (b : Bool) : (s.endCall l e b).patterns = s.patterns := by simp [State.endCall]
@[simp] theorem State.endCall_feeds (l : Fin 32) (e : Ending) (b : Bool) : (s.endCall l e b).feeds = s.feeds := by simp [State.endCall]
@[simp] theorem State.endCall_policy (l : Fin 32) (e : Ending) (b : Bool) : (s.endCall l e b).policy = s.policy := by simp [State.endCall]
@[simp] theorem State.endCall_findings (l : Fin 32) (e : Ending) (b : Bool) : (s.endCall l e b).findings = s.findings := by simp [State.endCall]
@[simp] theorem State.endCall_battery (l : Fin 32) (e : Ending) (b : Bool) : (s.endCall l e b).battery = s.battery := by simp [State.endCall]
@[simp] theorem State.endCall_reference (l : Fin 32) (e : Ending) (b : Bool) : (s.endCall l e b).reference = s.reference := by simp [State.endCall]
@[simp] theorem State.endCall_serviceA (l : Fin 32) (e : Ending) (b : Bool) : (s.endCall l e b).serviceA = s.serviceA := by simp [State.endCall]
@[simp] theorem State.endCall_serviceB (l : Fin 32) (e : Ending) (b : Bool) : (s.endCall l e b).serviceB = s.serviceB := by simp [State.endCall]
@[simp] theorem State.endCall_faultRecord (l : Fin 32) (e : Ending) (b : Bool) : (s.endCall l e b).faultRecord = s.faultRecord := by simp [State.endCall]
@[simp] theorem State.endCall_missed (l : Fin 32) (e : Ending) (b : Bool) : (s.endCall l e b).missed = s.missed := by simp [State.endCall]
@[simp] theorem State.endCall_causes (l : Fin 32) (e : Ending) (b : Bool) : (s.endCall l e b).causes = s.causes := by simp [State.endCall]
@[simp] theorem State.endCall_source (l : Fin 32) (e : Ending) (b : Bool) : (s.endCall l e b).source = s.source := by simp [State.endCall]
@[simp] theorem State.endCall_takenOver (l : Fin 32) (e : Ending) (b : Bool) : (s.endCall l e b).takenOver = s.takenOver := by simp [State.endCall]
@[simp] theorem State.endCall_heldCapture (l : Fin 32) (e : Ending) (b : Bool) : (s.endCall l e b).heldCapture = s.heldCapture := by simp [State.endCall]
@[simp] theorem State.endCall_resetStage (l : Fin 32) (e : Ending) (b : Bool) : (s.endCall l e b).resetStage = s.resetStage := by simp [State.endCall]
@[simp] theorem State.endCall_image (l : Fin 32) (e : Ending) (b : Bool) : (s.endCall l e b).image = s.image := by simp [State.endCall]
@[simp] theorem State.endCall_save (l : Fin 32) (e : Ending) (b : Bool) : (s.endCall l e b).save = s.save := by simp [State.endCall]
@[simp] theorem State.endCall_freeCount (l : Fin 32) (e : Ending) (b : Bool) : (s.endCall l e b).freeCount = s.freeCount := by simp [State.endCall]
@[simp] theorem State.endCall_pending (l : Fin 32) (e : Ending) (b : Bool) : (s.endCall l e b).pending = s.pending := by simp [State.endCall]

end Sys2Proof.Machine
end

