-- ==== Sys2Proof/Laws/Access.lean ====
section
/-! SUPPORT. Reading one numbered record after another is written: the record written reads as written, every other
one as before. -/

namespace Sys2Proof.Machine

theorem feedIndex_injective {f g : Feed} (h : feedIndex f = feedIndex g) : f = g := by
  cases f <;> cases g <;> first | rfl | exact absurd h (by decide)

theorem portIndex_injective {p q : Port} (h : portIndex p = portIndex q) : p = q := by
  cases p <;> cases q <;> first | rfl | exact absurd h (by decide)

variable (s : State)

@[simp] theorem State.modLine_line_self (l : Fin 32) (g : Line → Line) : (s.modLine l g).line l = g (s.line l) := by
  simp [State.modLine, State.line, Vector.get_eq_getElem]

theorem State.modLine_line_other {l k : Fin 32} (g : Line → Line) (h : k ≠ l) : (s.modLine l g).line k = s.line k := by
  have : l.val ≠ k.val := fun e => h (Fin.ext e.symm)
  simp [State.modLine, State.line, Vector.get_eq_getElem, this]

theorem State.modLine_line (l k : Fin 32) (g : Line → Line) :
    (s.modLine l g).line k = if k = l then g (s.line l) else s.line k := by
  split
  · next h => subst h; simp
  · next h => exact s.modLine_line_other g h

@[simp] theorem State.setStation_station_self (i : Fin 192) (x : Station) : (s.setStation i x).station i = x := by
  simp [State.setStation, State.station, Vector.get_eq_getElem]

theorem State.setStation_station_other {i k : Fin 192} (x : Station) (h : k ≠ i) :
    (s.setStation i x).station k = s.station k := by
  have : i.val ≠ k.val := fun e => h (Fin.ext e.symm)
  simp [State.setStation, State.station, Vector.get_eq_getElem, this]

@[simp] theorem State.setPattern_pattern_self (k : Fin 16) (x : Pattern) : (s.setPattern k x).pattern k = x := by
  simp [State.setPattern, State.pattern, Vector.get_eq_getElem]

theorem State.setPattern_pattern_other {k n : Fin 16} (x : Pattern) (h : n ≠ k) :
    (s.setPattern k x).pattern n = s.pattern n := by
  have : k.val ≠ n.val := fun e => h (Fin.ext e.symm)
  simp [State.setPattern, State.pattern, Vector.get_eq_getElem, this]

@[simp] theorem State.modFeed_feed_self (f : Feed) (g : FeedRecord → FeedRecord) :
    (s.modFeed f g).feed f = g (s.feed f) := by
  simp [State.modFeed, State.feed, Vector.get_eq_getElem]

theorem State.modFeed_feed_other {f k : Feed} (g : FeedRecord → FeedRecord) (h : k ≠ f) :
    (s.modFeed f g).feed k = s.feed k := by
  have : (feedIndex f).val ≠ (feedIndex k).val := fun e => h (feedIndex_injective (Fin.ext e.symm))
  simp [State.modFeed, State.feed, Vector.get_eq_getElem, this]

@[simp] theorem State.modPort_port_self (p : Port) (g : PortRecord → PortRecord) :
    (s.modPort p g).port p = g (s.port p) := by
  simp [State.modPort, State.port, Vector.get_eq_getElem]

theorem State.modPort_port_other {p q : Port} (g : PortRecord → PortRecord) (h : q ≠ p) :
    (s.modPort p g).port q = s.port q := by
  have : (portIndex p).val ≠ (portIndex q).val := fun e => h (portIndex_injective (Fin.ext e.symm))
  simp [State.modPort, State.port, Vector.get_eq_getElem, this]

theorem State.modPort_port (p q : Port) (g : PortRecord → PortRecord) :
    (s.modPort p g).port q = if q = p then g (s.port p) else s.port q := by
  split
  · next h => subst h; simp
  · next h => exact s.modPort_port_other g h

/-- What reading a record gives depends on its own vector alone. -/
theorem State.line_congr {s t : State} (h : t.lines = s.lines) (l : Fin 32) : t.line l = s.line l := by
  simp [State.line, h]

theorem State.port_congr {s t : State} (h : t.ports = s.ports) (p : Port) : t.port p = s.port p := by
  simp [State.port, h]

theorem State.feed_congr {s t : State} (h : t.feeds = s.feeds) (f : Feed) : t.feed f = s.feed f := by
  simp [State.feed, h]

theorem State.station_congr {s t : State} (h : t.stations = s.stations) (i : Fin 192) : t.station i = s.station i := by
  simp [State.station, h]

theorem State.pattern_congr {s t : State} (h : t.patterns = s.patterns) (k : Fin 16) : t.pattern k = s.pattern k := by
  simp [State.pattern, h]

/-- A plane's service depends on the two service fields alone. -/
theorem State.inService_congr {s t : State} (ha : t.serviceA = s.serviceA) (hb : t.serviceB = s.serviceB) (p : Port) :
    t.inService p = s.inService p := by
  cases p <;> simp [State.inService, ha, hb]

/-! ### Jobs and reverts -/

/-- The job of a line is for that line. -/
theorem State.job?_line {s : State} {l : Fin 32} {j : Job} (h : s.job? l = some j) : j.line = l := by
  simpa using List.find?_some h

theorem State.job?_mem {s : State} {l : Fin 32} {j : Job} (h : s.job? l = some j) : j ∈ s.jobs :=
  List.mem_of_find?_eq_some h

/-- The revert of a line is for that line. -/
theorem State.revert?_line {s : State} {l : Fin 32} {r : Revert} (h : s.revert? l = some r) : r.line = l := by
  simpa using List.find?_some h

theorem State.revert?_mem {s : State} {l : Fin 32} {r : Revert} (h : s.revert? l = some r) : r ∈ s.reverts :=
  List.mem_of_find?_eq_some h

/-- Once the job of a line is dropped the line has none. -/
@[simp] theorem State.dropJob_job?_self (l : Fin 32) : (s.dropJob l).job? l = none := by
  simp [State.dropJob, State.job?]

@[simp] theorem State.dropRevert_revert?_self (l : Fin 32) : (s.dropRevert l).revert? l = none := by
  simp [State.dropRevert, State.revert?]

/-- No job is for the line. -/
theorem State.hasJob_eq_false {s : State} {l : Fin 32} : s.hasJob l = false ↔ ∀ j ∈ s.jobs, j.line ≠ l := by
  simp [State.hasJob, State.job?]

theorem State.hasRevert_eq_false {s : State} {l : Fin 32} : s.hasRevert l = false ↔ ∀ r ∈ s.reverts, r.line ≠ l := by
  simp [State.hasRevert, State.revert?]

/-! ### Queues -/

/-- An event enters a queue that has room, at its tail, and is discarded from a full one, setting the flag (R166). -/
theorem State.enqueue_port_self (p : Port) (e : Event) :
    (s.enqueue p e).port p =
      if (s.port p).queue.length < 32 then { s.port p with queue := (s.port p).queue ++ [e] }
      else { s.port p with overflow := true } := by
  rw [State.enqueue, State.modPort_port_self]; rfl

theorem State.enqueue_port_other {p q : Port} (e : Event) (h : q ≠ p) : (s.enqueue p e).port q = s.port q :=
  s.modPort_port_other _ h

/-- A queue of at most 32 events stays one (R166). -/
theorem State.enqueue_queue_le {p q : Port} (e : Event) (h : ∀ q, (s.port q).queue.length ≤ 32) :
    ((s.enqueue p e).port q).queue.length ≤ 32 := by
  by_cases hq : q = p
  · subst hq
    rw [s.enqueue_port_self]
    split
    · simp; omega
    · exact h q
  · rw [s.enqueue_port_other e hq]; exact h q

end Sys2Proof.Machine
end

