-- ==== Sys2Proof/Laws/Scheduler.lean ====
section
/-! SUPPORT. What the shared operations of the scheduler can do: a placement pass changes jobs alone, and places a
WAITING job only at a phase where it fits; a shed changes its job and the drive of its line. -/

namespace Sys2Proof.Machine

/-! ### Changing the job of a line -/

/-- Changing jobs in a way that keeps their lines keeps the lines of the pool. -/
theorem State.modJob_jobLines (s : State) (l : Fin 32) (g : Job → Job) (h : ∀ j, (g j).line = j.line) :
    (s.modJob l g).jobs.map (·.line) = s.jobs.map (·.line) := by
  simp only [State.modJob, List.map_map]
  refine List.map_congr_left fun j _ => ?_
  simp only [Function.comp]
  split
  · exact h j
  · rfl

/-- The job of the line changed is the changed job; any other line's is as before. -/
theorem State.modJob_job? (s : State) (l k : Fin 32) (g : Job → Job) (h : ∀ j, (g j).line = j.line) :
    (s.modJob l g).job? k = if k = l then (s.job? k).map g else s.job? k := by
  simp only [State.modJob, State.job?]
  induction s.jobs with
  | nil => simp
  | cons j js ih =>
    simp only [List.map_cons, List.find?_cons]
    by_cases hj : j.line = l
    · by_cases hk : j.line = k
      · have : k = l := hk ▸ hj
        simp [h, this, hj]
      · have hk' : k ≠ l := fun e => hk (hj.trans e.symm)
        have h1 : (j.line == k) = false := by simpa using hk
        have h2 : ((if j.line = l then g j else j).line == k) = false := by simpa [hj, h] using hk
        rw [h2, h1]
        simpa using ih
    · have h2 : (if j.line = l then g j else j) = j := if_neg hj
      rw [h2]
      by_cases hk : j.line = k
      · have hk' : k ≠ l := fun e => hj (hk.trans e)
        simp [hk, hk']
      · have h1 : (j.line == k) = false := by simpa using hk
        rw [h1]
        simpa using ih

/-- Changing a job keeps the number of jobs. -/
@[simp] theorem State.modJob_length (s : State) (l : Fin 32) (g : Job → Job) :
    (s.modJob l g).jobs.length = s.jobs.length := by
  simp [State.modJob]

/-! ### One placement (R36, R37, R55) -/

/-- What a pass makes of one line: nothing, or its WAITING job placed at a phase that fits its feed. -/
theorem State.tryPlace_cases (s : State) (l : Fin 32) :
    s.tryPlace l = s ∨
    ∃ j f k n ph, s.job? l = some j ∧ j.state = .waiting ∧ s.gated j = false ∧ j.current = some f ∧
      j.pattern = some k ∧ j.load = some n ∧ s.fits f (s.pattern k) n ph = true ∧
      s.tryPlace l = s.modJob l fun j => { j with state := .placed, phase := some ph } := by
  unfold State.tryPlace
  split
  · exact .inl rfl
  · next j hj =>
    split
    · exact .inl rfl
    · next ph hph =>
      unfold State.phaseFor at hph
      split at hph
      · next hw =>
        split at hph
        · next f k n hf hk hn =>
          exact .inr ⟨j, f, k, n, ph, hj, hw.1, hw.2, hf, hk, hn, List.find?_some hph, rfl⟩
        · cases hph
      · cases hph

/-- A pass over one line changes jobs alone. -/
theorem State.tryPlace_eq (s : State) (l : Fin 32) : s.tryPlace l = { s with jobs := (s.tryPlace l).jobs } := by
  rcases s.tryPlace_cases l with h | ⟨_, _, _, _, _, _, _, _, _, _, _, _, h⟩
  · rw [h]
  · rw [h]; try rfl

/-- A pass over one line keeps the lines of the pool. -/
theorem State.tryPlace_jobLines (s : State) (l : Fin 32) :
    (s.tryPlace l).jobs.map (·.line) = s.jobs.map (·.line) := by
  rcases s.tryPlace_cases l with h | ⟨_, _, _, _, _, _, _, _, _, _, _, _, h⟩
  · rw [h]
  · rw [h]; exact s.modJob_jobLines l _ fun _ => rfl

/-- A property that each placement keeps holds after a pass. -/
theorem State.pass_induction {P : State → Prop} (s : State) (h0 : P s) (h : ∀ t l, P t → P (t.tryPlace l)) :
    P s.pass := by
  unfold State.pass
  generalize s.queue = q
  induction q generalizing s with
  | nil => exact h0
  | cons l q ih => exact ih (s.tryPlace l) (h s l h0)

/-- A placement pass changes jobs alone (R38, R55). -/
theorem State.pass_eq (s : State) : s.pass = { s with jobs := s.pass.jobs } := by
  refine s.pass_induction (P := fun t => t = { s with jobs := t.jobs }) rfl fun t l ht => ?_
  rw [t.tryPlace_eq l, ht]

/-- A placement pass neither adds, removes nor reorders jobs. -/
theorem State.pass_jobLines (s : State) : s.pass.jobs.map (·.line) = s.jobs.map (·.line) :=
  s.pass_induction (P := fun t => t.jobs.map (·.line) = s.jobs.map (·.line)) rfl fun t l ht =>
    (t.tryPlace_jobLines l).trans ht

theorem State.pass_length (s : State) : s.pass.jobs.length = s.jobs.length := by
  simpa using congrArg List.length s.pass_jobLines

/-- A pass changes nothing in an empty pool. -/
theorem State.pass_of_no_jobs (s : State) (h : s.jobs = []) : s.pass = s := by
  have hq : s.queue = [] := by
    unfold State.queue
    split <;> simp [State.waitingOfClass, h]
  simp [State.pass, hq]

@[simp] theorem State.pass_phase (s : State) : s.pass.phase = s.phase := by rw [s.pass_eq]
@[simp] theorem State.pass_pos (s : State) : s.pass.pos = s.pos := by rw [s.pass_eq]
@[simp] theorem State.pass_stamp (s : State) : s.pass.stamp = s.stamp := by rw [s.pass_eq]
@[simp] theorem State.pass_lines (s : State) : s.pass.lines = s.lines := by rw [s.pass_eq]
@[simp] theorem State.pass_stations (s : State) : s.pass.stations = s.stations := by rw [s.pass_eq]
@[simp] theorem State.pass_patterns (s : State) : s.pass.patterns = s.patterns := by rw [s.pass_eq]
@[simp] theorem State.pass_feeds (s : State) : s.pass.feeds = s.feeds := by rw [s.pass_eq]
@[simp] theorem State.pass_policy (s : State) : s.pass.policy = s.policy := by rw [s.pass_eq]
@[simp] theorem State.pass_reverts (s : State) : s.pass.reverts = s.reverts := by rw [s.pass_eq]
@[simp] theorem State.pass_findings (s : State) : s.pass.findings = s.findings := by rw [s.pass_eq]
@[simp] theorem State.pass_battery (s : State) : s.pass.battery = s.battery := by rw [s.pass_eq]
@[simp] theorem State.pass_reference (s : State) : s.pass.reference = s.reference := by rw [s.pass_eq]
@[simp] theorem State.pass_serviceA (s : State) : s.pass.serviceA = s.serviceA := by rw [s.pass_eq]
@[simp] theorem State.pass_serviceB (s : State) : s.pass.serviceB = s.serviceB := by rw [s.pass_eq]
@[simp] theorem State.pass_ports (s : State) : s.pass.ports = s.ports := by rw [s.pass_eq]
@[simp] theorem State.pass_faultRecord (s : State) : s.pass.faultRecord = s.faultRecord := by rw [s.pass_eq]
@[simp] theorem State.pass_missed (s : State) : s.pass.missed = s.missed := by rw [s.pass_eq]
@[simp] theorem State.pass_causes (s : State) : s.pass.causes = s.causes := by rw [s.pass_eq]
@[simp] theorem State.pass_source (s : State) : s.pass.source = s.source := by rw [s.pass_eq]
@[simp] theorem State.pass_takenOver (s : State) : s.pass.takenOver = s.takenOver := by rw [s.pass_eq]
@[simp] theorem State.pass_heldCapture (s : State) : s.pass.heldCapture = s.heldCapture := by rw [s.pass_eq]
@[simp] theorem State.pass_resetStage (s : State) : s.pass.resetStage = s.resetStage := by rw [s.pass_eq]
@[simp] theorem State.pass_image (s : State) : s.pass.image = s.image := by rw [s.pass_eq]
@[simp] theorem State.pass_save (s : State) : s.pass.save = s.save := by rw [s.pass_eq]
@[simp] theorem State.pass_freeCount (s : State) : s.pass.freeCount = s.freeCount := by rw [s.pass_eq]
@[simp] theorem State.pass_pending (s : State) : s.pass.pending = s.pending := by rw [s.pass_eq]

@[simp] theorem State.passIf_phase (s : State) (b : Bool) : (s.passIf b).phase = s.phase := by cases b <;> simp [State.passIf]
@[simp] theorem State.passIf_pos (s : State) (b : Bool) : (s.passIf b).pos = s.pos := by cases b <;> simp [State.passIf]
@[simp] theorem State.passIf_stamp (s : State) (b : Bool) : (s.passIf b).stamp = s.stamp := by cases b <;> simp [State.passIf]
@[simp] theorem State.passIf_lines (s : State) (b : Bool) : (s.passIf b).lines = s.lines := by cases b <;> simp [State.passIf]
@[simp] theorem State.passIf_stations (s : State) (b : Bool) : (s.passIf b).stations = s.stations := by cases b <;> simp [State.passIf]
@[simp] theorem State.passIf_patterns (s : State) (b : Bool) : (s.passIf b).patterns = s.patterns := by cases b <;> simp [State.passIf]
@[simp] theorem State.passIf_feeds (s : State) (b : Bool) : (s.passIf b).feeds = s.feeds := by cases b <;> simp [State.passIf]
@[simp] theorem State.passIf_policy (s : State) (b : Bool) : (s.passIf b).policy = s.policy := by cases b <;> simp [State.passIf]
@[simp] theorem State.passIf_reverts (s : State) (b : Bool) : (s.passIf b).reverts = s.reverts := by cases b <;> simp [State.passIf]
@[simp] theorem State.passIf_findings (s : State) (b : Bool) : (s.passIf b).findings = s.findings := by cases b <;> simp [State.passIf]
@[simp] theorem State.passIf_battery (s : State) (b : Bool) : (s.passIf b).battery = s.battery := by cases b <;> simp [State.passIf]
@[simp] theorem State.passIf_reference (s : State) (b : Bool) : (s.passIf b).reference = s.reference := by cases b <;> simp [State.passIf]
@[simp] theorem State.passIf_serviceA (s : State) (b : Bool) : (s.passIf b).serviceA = s.serviceA := by cases b <;> simp [State.passIf]
@[simp] theorem State.passIf_serviceB (s : State) (b : Bool) : (s.passIf b).serviceB = s.serviceB := by cases b <;> simp [State.passIf]
@[simp] theorem State.passIf_ports (s : State) (b : Bool) : (s.passIf b).ports = s.ports := by cases b <;> simp [State.passIf]
@[simp] theorem State.passIf_faultRecord (s : State) (b : Bool) : (s.passIf b).faultRecord = s.faultRecord := by cases b <;> simp [State.passIf]
@[simp] theorem State.passIf_missed (s : State) (b : Bool) : (s.passIf b).missed = s.missed := by cases b <;> simp [State.passIf]
@[simp] theorem State.passIf_causes (s : State) (b : Bool) : (s.passIf b).causes = s.causes := by cases b <;> simp [State.passIf]
@[simp] theorem State.passIf_source (s : State) (b : Bool) : (s.passIf b).source = s.source := by cases b <;> simp [State.passIf]
@[simp] theorem State.passIf_takenOver (s : State) (b : Bool) : (s.passIf b).takenOver = s.takenOver := by cases b <;> simp [State.passIf]
@[simp] theorem State.passIf_heldCapture (s : State) (b : Bool) : (s.passIf b).heldCapture = s.heldCapture := by cases b <;> simp [State.passIf]
@[simp] theorem State.passIf_resetStage (s : State) (b : Bool) : (s.passIf b).resetStage = s.resetStage := by cases b <;> simp [State.passIf]
@[simp] theorem State.passIf_image (s : State) (b : Bool) : (s.passIf b).image = s.image := by cases b <;> simp [State.passIf]
@[simp] theorem State.passIf_save (s : State) (b : Bool) : (s.passIf b).save = s.save := by cases b <;> simp [State.passIf]
@[simp] theorem State.passIf_freeCount (s : State) (b : Bool) : (s.passIf b).freeCount = s.freeCount := by cases b <;> simp [State.passIf]
@[simp] theorem State.passIf_pending (s : State) (b : Bool) : (s.passIf b).pending = s.pending := by cases b <;> simp [State.passIf]

/-- Where no pass is called for, none is run. -/
@[simp] theorem State.passIf_false (s : State) : s.passIf false = s := rfl

@[simp] theorem State.passIf_true (s : State) : s.passIf true = s.pass := rfl

/-! ### Shedding (R41) -/

/-- A shed job keeps its line. -/
@[simp] theorem State.shedJob_line (s : State) (j : Job) : (s.shedJob j).line = j.line := rfl

/-- A shed leaves the job WAITING with no phase (R41). -/
@[simp] theorem State.shedJob_state (s : State) (j : Job) : (s.shedJob j).state = .waiting := rfl

@[simp] theorem State.shedJob_phase (s : State) (j : Job) : (s.shedJob j).phase = none := rfl

/-- A shed changes jobs and line records alone. -/
theorem State.shed_eq (s : State) (l : Fin 32) :
    s.shed l = { s with jobs := (s.shed l).jobs, lines := (s.shed l).lines } := rfl

/-- A shed keeps the lines of the pool. -/
theorem State.shed_jobLines (s : State) (l : Fin 32) : (s.shed l).jobs.map (·.line) = s.jobs.map (·.line) :=
  s.modJob_jobLines l _ fun _ => rfl

/-! ### Target selection (R47) -/

/-- Target selection keeps the line of a job. -/
@[simp] theorem State.selectTarget_line (s : State) (j : Job) : (s.selectTarget j).line = j.line := by
  unfold State.selectTarget; split <;> rfl

@[simp] theorem State.takeStation_line (s : State) (y : Fin 8) (j : Job) : (s.takeStation y j).line = j.line := by
  unfold State.takeStation; split <;> simp

/-- Target selection gives WAITING with a GOOD feed, or SUSPENDED with none (R47). -/
theorem State.target_cases (s : State) (h : Feed) (v : Bool) :
    (∃ f, s.target h v = (.waiting, some f) ∧ (s.feed f).state = .good ∧ (f = h ∨ f = .fb)) ∨
    s.target h v = (.suspended, none) := by
  unfold State.target
  split
  · next hg => exact .inl ⟨h, rfl, hg, .inl rfl⟩
  · split
    · next hg => exact .inl ⟨.fb, rfl, hg.2.2, .inr rfl⟩
    · exact .inr rfl

end Sys2Proof.Machine
end

