-- ==== Sys2Proof/Laws/Link.lean ====
section
/-! SUPPORT. What taking a request can do (R160 to R162), and what an answer leaves as it was. -/

namespace Sys2Proof.Machine

/-! ### The answer (R162) -/

/-- An answer changes the ports alone. -/
theorem State.answer_eq (s : State) (p : Port) (tag kind : Byte) (args : List Byte) (st : Status)
    (payload : List Byte) :
    s.answer p tag kind args st payload = { s with ports := (s.answer p tag kind args st payload).ports } := rfl

/-- The port answered holds the taken frame and the response; its queue, flag and receiver are as before. -/
theorem State.answer_port_self (s : State) (p : Port) (tag kind : Byte) (args : List Byte) (st : Status)
    (payload : List Byte) :
    (s.answer p tag kind args st payload).port p =
      { s.port p with
        buffer := some ⟨tag :: kind :: args, true⟩, response := some (responseBody tag kind st payload) } := by
  rw [State.answer, State.modPort_port_self]

/-- Every other port is as before. -/
theorem State.answer_port_other (s : State) {p q : Port} (tag kind : Byte) (args : List Byte) (st : Status)
    (payload : List Byte) (h : q ≠ p) : (s.answer p tag kind args st payload).port q = s.port q :=
  s.modPort_port_other _ h

@[simp] theorem State.answer_line (s : State) (p : Port) (tag kind : Byte) (args : List Byte) (st : Status)
    (payload : List Byte) (l : Fin 32) : (s.answer p tag kind args st payload).line l = s.line l := rfl

/-! ### Taking a frame (R161) -/

/-- What taking a frame can do: nothing, NOT_READY in LOAD, or the reply of the request in RUN. -/
theorem takeFrame_cases (p : Port) (tag kind : Byte) (args : List Byte) (h : State → Reply) (s : State) :
    takeFrame p tag kind args h s = s ∨
    (s.phase = .load ∧ takeFrame p tag kind args h s = s.answer p tag kind args .notReady []) ∨
    (s.phase = .run ∧
      takeFrame p tag kind args h s = (h s).state.answer p tag kind args (h s).status (h s).payload) := by
  unfold takeFrame
  split
  · cases hp : s.phase <;> simp
  · exact .inl rfl

/-- In RUN a frame that the port accepts is answered with the reply. -/
theorem takeFrame_run {p : Port} {tag kind : Byte} {args : List Byte} (h : State → Reply) {s : State}
    (hp : s.phase = .run) (ha : s.accepts p (tag :: kind :: args) = true) :
    takeFrame p tag kind args h s = (h s).state.answer p tag kind args (h s).status (h s).payload := by
  simp [takeFrame, ha, hp]

/-- In LOAD a frame that the port accepts is answered NOT_READY and changes nothing else. -/
theorem takeFrame_load {p : Port} {tag kind : Byte} {args : List Byte} (h : State → Reply) {s : State}
    (hp : s.phase = .load) (ha : s.accepts p (tag :: kind :: args) = true) :
    takeFrame p tag kind args h s = s.answer p tag kind args .notReady [] := by
  simp [takeFrame, ha, hp]

/-- In HOLD no request is received. -/
theorem takeFrame_hold {p : Port} {tag kind : Byte} {args : List Byte} (h : State → Reply) {s : State}
    (hp : s.phase = .hold) : takeFrame p tag kind args h s = s := by
  simp [takeFrame, hp]

/-- A frame that finds another in the receive buffer is discarded (R160). -/
theorem takeFrame_discarded {p : Port} {tag kind : Byte} {args : List Byte} (h : State → Reply) {s : State}
    (ha : s.accepts p (tag :: kind :: args) = false) : takeFrame p tag kind args h s = s := by
  simp [takeFrame, ha]

/-- An empty receive buffer accepts any frame. -/
theorem State.accepts_of_empty {s : State} {p : Port} (h : (s.port p).buffer = none) (body : List Byte) :
    s.accepts p body = true := by
  simp [State.accepts, h]

/-! ### Port control (R144) -/

/-- What port control can do: refuse, or hand the request on. -/
theorem portControl_cases (k : Kind) (p : Port) (h : State → Reply) (s : State) :
    (∃ st, portControl k p h s = refuse s st) ∨ portControl k p h s = h s := by
  unfold portControl
  split
  · exact .inl ⟨_, rfl⟩
  · split
    · exact .inl ⟨_, rfl⟩
    · exact .inr rfl

/-- A permitted request of a port in service is handed on. -/
theorem portControl_taken {k : Kind} {p : Port} (h : State → Reply) {s : State} (hp : permitted k p = true)
    (hs : s.inService p = true ∨ takenOutOfService k = true) : portControl k p h s = h s := by
  unfold portControl
  rw [if_neg (by simp [hp]), if_neg]
  rcases hs with hs | hs <;> simp [hs]

/-- What a request can do: nothing, an answer that changes nothing else, or its own reply in RUN. -/
theorem request_cases (k : Kind) (p : Port) (tag : Byte) (args : List Byte) (h : State → Reply) (s : State) :
    request k p tag args h s = s ∨ (∃ st, request k p tag args h s = s.answer p tag k.code args st []) ∨
    (s.phase = .run ∧ request k p tag args h s = (h s).state.answer p tag k.code args (h s).status (h s).payload) := by
  unfold request
  rcases takeFrame_cases p tag k.code args (portControl k p h) s with e | ⟨_, e⟩ | ⟨hp, e⟩
  · exact .inl e
  · exact .inr (.inl ⟨_, e⟩)
  · rcases portControl_cases k p h s with ⟨st, hr⟩ | hr
    · exact .inr (.inl ⟨st, by rw [e, hr]; rfl⟩)
    · exact .inr (.inr ⟨hp, by rw [e, hr]⟩)

/-- In RUN, a permitted request of a port in service whose frame is accepted is answered with its own reply. -/
theorem request_run {k : Kind} {p : Port} {tag : Byte} {args : List Byte} (h : State → Reply) {s : State}
    (hr : s.phase = .run) (ha : s.accepts p (tag :: k.code :: args) = true) (hp : permitted k p = true)
    (hs : s.inService p = true ∨ takenOutOfService k = true) :
    request k p tag args h s = (h s).state.answer p tag k.code args (h s).status (h s).payload := by
  rw [request, takeFrame_run _ hr ha, portControl_taken h hp hs]

/-- A property that every answer and the reply's own effect keep holds after the request. -/
theorem request_induction {P : State → Prop} {k : Kind} {p : Port} {tag : Byte} {args : List Byte} {h : State → Reply}
    {s : State} (h0 : P s) (hw : ∀ t st payload, P t → P (t.answer p tag k.code args st payload))
    (hh : s.phase = .run → P (h s).state) : P (request k p tag args h s) := by
  rcases request_cases k p tag args h s with e | ⟨st, e⟩ | ⟨hr, e⟩
  · rw [e]; exact h0
  · rw [e]; exact hw s st [] h0
  · rw [e]; exact hw _ _ _ (hh hr)

end Sys2Proof.Machine
end

