-- ==== Sys2Proof/Laws/Calls.lean ====
section
/-! SUPPORT. What the ending of a call does (R71, R109), and what the walk over a list of lines keeps. -/

namespace Sys2Proof.Machine

/-- A property that each step of a walk keeps holds after the walk. -/
theorem foldl_induction {α β : Type} {P : β → Prop} (f : β → α → β) (xs : List α) (b : β) (h0 : P b)
    (h : ∀ c x, P c → P (f c x)) : P (xs.foldl f b) := by
  induction xs generalizing b with
  | nil => exact h0
  | cons x xs ih => exact ih (f b x) (h b x h0)

/-- The jobs after an ending: those of the other lines. -/
theorem State.endCall_jobs (s : State) (l : Fin 32) (e : Ending) (b : Bool) :
    (s.endCall l e b).jobs = s.jobs.filter fun j => j.line != l := by
  simp only [State.endCall, State.dropRevert_jobs, State.dropJob, State.releaseIf_jobs, State.reportEnding_jobs,
    State.cutDrive_jobs]

/-- The reverts after an ending: those of the other lines. -/
theorem State.endCall_reverts (s : State) (l : Fin 32) (e : Ending) (b : Bool) :
    (s.endCall l e b).reverts = s.reverts.filter fun r => r.line != l := by
  simp only [State.endCall, State.dropRevert, State.dropJob_reverts, State.releaseIf_reverts,
    State.reportEnding_reverts, State.cutDrive_reverts]

/-- After an ending the line has neither job nor revert (R71 step 5, R109). -/
theorem State.endCall_idle (s : State) (l : Fin 32) (e : Ending) (b : Bool) :
    (s.endCall l e b).hasJob l = false ∧ (s.endCall l e b).hasRevert l = false := by
  constructor
  · rw [State.hasJob_eq_false, State.endCall_jobs]
    intro j hj
    simpa using (List.mem_filter.1 hj).2
  · rw [State.hasRevert_eq_false, State.endCall_reverts]
    intro r hr
    simpa using (List.mem_filter.1 hr).2

/-- The lines after an ending: the drive of the line is NONE, and where the ending releases, the binding and parked are
cleared (R71 steps 1 and 4). -/
theorem State.endCall_line (s : State) (l k : Fin 32) (e : Ending) (b : Bool) :
    (s.endCall l e b).line k =
      if k = l then
        if b then { s.line l with drive := none, owner := none, parked := false } else { s.line l with drive := none }
      else s.line k := by
  have h1 : (s.endCall l e b).line k = (((s.cutDrive l).reportEnding l e).releaseIf b l).line k :=
    State.line_congr rfl k
  have h2 : ∀ k, ((s.cutDrive l).reportEnding l e).line k = (s.cutDrive l).line k := fun k =>
    State.line_congr (State.reportEnding_lines _ l e) k
  rw [h1]
  cases b
  · simp only [State.releaseIf, Bool.false_eq_true, if_false, h2]
    rw [State.cutDrive, State.modLine_line]
  · simp only [State.releaseIf, if_true, State.releaseBinding]
    rw [State.modLine_line, h2, h2, State.cutDrive, State.modLine_line, State.modLine_line]
    split <;> simp_all

/-! ### A TAKEOVER and the plane it puts out of service (R97, R153) -/

/-- Keeping a TAKEOVER in mind changes the mark alone. -/
theorem State.noteTakeover_eq (s : State) (q : Port) :
    s.noteTakeover q = { s with takenOver := (s.noteTakeover q).takenOver } := by
  unfold State.noteTakeover
  split <;> rfl

/-- What a TAKEOVER of a plane leaves as its mark. -/
theorem State.noteTakeover_takenOver (s : State) (q : Port) :
    (s.noteTakeover q).takenOver =
      if s.inService q then some ⟨q, allLines.filter fun l => (s.line l).owner == some q⟩ else s.takenOver := by
  unfold State.noteTakeover
  split <;> rfl

/-- A plane that has opened carries no mark. -/
theorem State.endTakenOver_plane {s : State} {p : Port} {x : TakenOver} (h : (s.endTakenOver p).takenOver = some x) :
    x.plane ≠ p := by
  have := (Option.filter_eq_some_iff.1 h).2
  simpa using this

/-- A line moved away was moved by the TAKEOVER of this very plane, and the other plane holds it. -/
theorem State.movedAway_iff (s : State) (p : Port) (line : Byte) :
    s.movedAway p line = true ↔
      ∃ l x, argLine line = some l ∧ s.takenOver = some x ∧ x.plane = p ∧ l ∈ x.lines ∧
        (s.line l).owner = some (otherPlane p) := by
  unfold State.movedAway
  cases argLine line <;> cases s.takenOver <;> simp [and_assoc]

/-- What a REVERT at its port can do: be refused, or be handed on to the revert unit. -/
theorem revertAtPort_cases (p : Port) (line caller called ringCaller limit : Byte) (s : State) :
    (∃ st, revertAtPort p line caller called ringCaller limit s = refuse s st) ∨
    revertAtPort p line caller called ringCaller limit s = revertReply p line caller called ringCaller limit s := by
  unfold revertAtPort
  dsimp only
  split
  · exact .inl ⟨_, rfl⟩
  · exact portControl_cases _ _ _ _

/-- In service, a REVERT from a plane is checked by the revert unit (R95). -/
theorem revertAtPort_inService {p : Port} {s : State} (hp : isPlane p = true) (hs : s.inService p = true)
    (line caller called ringCaller limit : Byte) :
    revertAtPort p line caller called ringCaller limit s = revertReply p line caller called ringCaller limit s := by
  unfold revertAtPort
  dsimp only
  rw [if_neg (by simp [hs]), portControl_taken (k := .revert) _ hp (.inl hs)]

end Sys2Proof.Machine
end

