-- ==== Sys2Proof/Laws/Hook.lean ====
section
/-! SUPPORT. A line's waiting findings and the supervision that requests and endings meet (R86, log 30): what the
model computes is what the claims say, what it depends on, and what a failed closure does. -/

namespace Sys2Proof.Machine

variable (s : State)

/-- The oldest waiting finding of a line is the first of its findings. -/
theorem State.nextFinding_eq (l : Fin 32) : s.nextFinding l = (findingsOf s l).head? := by
  simp only [State.nextFinding, findingsOf, List.head?_map, List.head?_filter]

/-- The supervision the model's requests and endings read is the one the claims name. -/
theorem State.seen_eq (l : Fin 32) : s.seen l = supervisionMet s l := by
  rw [State.seen, State.nextFinding_eq, supervisionMet]
  cases findingsOf s l with
  | nil => rfl
  | cons k rest => cases k <;> rfl

theorem isOffHook_seen_iff (l : Fin 32) : isOffHook (s.seen l) = true ↔ MetOffHook s l := by
  rw [State.seen_eq, MetOffHook]
  cases supervisionMet s l <;> simp [isOffHook]

theorem findingDue_iff (l : Fin 32) : s.findingDue l = true ↔ OffHookWaits s l := by
  simp [State.findingDue, OffHookWaits, State.nextFinding_eq]

/-- The model's test of an outstanding origination is the condition the claims spell out (R12, R84, R146). -/
theorem outstanding_iff (l : Fin 32) : s.outstanding l = true ↔ OriginationStands s l := by
  have h := findingDue_iff s l
  have h' : (!s.findingDue l) = true ↔ ¬OffHookWaits s l := by
    rw [← h]; cases s.findingDue l <;> simp
  simp only [State.outstanding, State.offered, OriginationStands, Bool.and_eq_true, beq_iff_eq, h',
    isOffHook_seen_iff, Option.isNone_iff_eq_none, Bool.not_eq_true', State.hasJob, State.hasRevert,
    Option.isSome_eq_false_iff]
  constructor
  · rintro ⟨⟨⟨⟨⟨⟨a, b⟩, c⟩, d⟩, e⟩, f⟩, g⟩
    exact ⟨a, f, b, c, d, e, g⟩
  · rintro ⟨a, f, b, c, d, e, g⟩
    exact ⟨⟨⟨⟨⟨⟨a, b⟩, c⟩, d⟩, e⟩, f⟩, g⟩

/-- The supervision met depends on the findings and the scanner's state alone. -/
theorem State.seen_congr {s t : State} (l : Fin 32) (hf : t.findings = s.findings)
    (hv : (t.line l).supervision = (s.line l).supervision) : t.seen l = s.seen l := by
  simp only [State.seen, State.nextFinding, hf, hv]

/-- With no finding waiting the supervision met is the scanner's own. -/
theorem State.seen_idle (l : Fin 32) (h : findingsOf s l = []) : s.seen l = (s.line l).supervision := by
  rw [State.seen_eq, supervisionMet, h]

/-- The findings of a line once its oldest has been taken. -/
theorem takeFinding_findingsOf (l : Fin 32) : findingsOf (s.takeFinding l) l = (findingsOf s l).tail := by
  simp only [findingsOf, State.takeFinding]
  generalize s.findings = fs
  induction fs with
  | nil => rfl
  | cons x xs ih =>
    by_cases h : (x.line == l) = true
    · simp [List.eraseP_cons_of_pos, h]
    · simpa [List.eraseP_cons, List.filter_cons, h] using ih

/-- A finding made joins the end of its line's findings. -/
theorem makeFinding_findingsOf (l k : Fin 32) (x : FindingKind) :
    findingsOf (s.makeFinding l x) k = findingsOf s k ++ (if l = k then [x] else []) := by
  simp only [findingsOf, State.makeFinding, List.filter_append, List.map_append]
  by_cases h : l = k <;> simp [h]

/-- What is left of a line's findings once they are void up to its oldest on-hook finding. -/
theorem voidFindings_findingsOf (l : Fin 32) :
    findingsOf (s.voidFindings l) l = ((findingsOf s l).dropWhile (· != .onHook)).tail := by
  simp only [findingsOf, State.voidFindings]
  generalize s.findings = fs
  induction fs with
  | nil => rfl
  | cons x xs ih =>
    by_cases h : x.line = l
    · by_cases k : x.kind = .onHook
      · simp [voidedFindings, h, k]
      · simp [voidedFindings, h, k, ih]
    · simp [voidedFindings, h, ih]

/-- The findings of every other line stay. -/
theorem voidFindings_findingsOf_other {l k : Fin 32} (h : k ≠ l) : findingsOf (s.voidFindings l) k = findingsOf s k := by
  simp only [findingsOf, State.voidFindings]
  generalize s.findings = fs
  induction fs with
  | nil => rfl
  | cons x xs ih =>
    by_cases e : x.line = l
    · have e' : ¬x.line = k := fun c => h (c.symm.trans e)
      by_cases o : x.kind = .onHook
      · simp [voidedFindings, e, o, Ne.symm h]
      · simp [voidedFindings, e, o, ih, Ne.symm h]
    · simp only [voidedFindings, if_neg e]
      by_cases c : x.line = k <;> simp [c, ih]

/-- What a failed closure leaves of every line: ON_HOOK with run count 0 and parked cleared (R75). -/
theorem State.failClosure_line (l k : Fin 32) :
    (s.failClosure l).line k =
      if k = l then
        { s.line l with
          supervision := .onHook, scan := { (s.line l).scan with runCount := 0 }, parked := false }
      else s.line k := by
  have h : (s.failClosure l).line k =
      ((s.setSupervision l .onHook 0).modLine l fun x => { x with parked := false }).line k := by
    unfold State.failClosure
    split <;> rfl
  rw [h, State.setSupervision, State.modLine_line]
  split
  · next e => subst e; simp
  · next e => rw [State.modLine_line_other _ _ e]

/-- What a failed closure leaves of a line's findings: on a parked line they are void up to the oldest on-hook (R86). -/
theorem State.failClosure_findingsOf (l : Fin 32) :
    findingsOf (s.failClosure l) l =
      if (s.line l).parked then ((findingsOf s l).dropWhile (· != .onHook)).tail else findingsOf s l := by
  unfold State.failClosure
  split
  · rw [voidFindings_findingsOf]; rfl
  · rfl

end Sys2Proof.Machine
end

