-- ==== Sys2Proof/Laws/Memory.lean ====
section
/-! SUPPORT. The configuration memory: a byte written reads as written, every other byte as before, and every
operation keeps the canonical form. -/

namespace Sys2Proof.Machine

/-- The canonical form, said of the list. -/
theorem Memory.wf_iff {m : Memory} :
    Memory.wf m = true ↔ m.Pairwise (fun x y => x.1 < y.1) ∧ ∀ c ∈ m, c.2 ≠ blankByte := by
  simp [Memory.wf]

@[simp] theorem Memory.read_nil (a : Nat) : Memory.read [] a = blankByte := rfl

@[simp] theorem Memory.read_cons (b : Nat) (v : Byte) (m : Memory) (a : Nat) :
    Memory.read ((b, v) :: m) a = if a = b then v else Memory.read m a := rfl

/-- An address that is not listed reads as blank. -/
theorem Memory.read_of_not_mem {m : Memory} {a : Nat} (h : ∀ c ∈ m, c.1 ≠ a) : Memory.read m a = blankByte := by
  induction m with
  | nil => rfl
  | cons c m ih =>
    obtain ⟨b, v⟩ := c
    have hb : a ≠ b := fun e => h (b, v) (by simp) e.symm
    simp [hb, ih fun c hc => h c (by simp [hc])]

/-- A byte put at an address reads there, and leaves every other address as it was. -/
theorem Memory.read_insert (m : Memory) (a : Nat) (v : Byte) (b : Nat) :
    Memory.read (Memory.insert m a v) b = if b = a then v else Memory.read m b := by
  induction m with
  | nil => rfl
  | cons c m ih =>
    obtain ⟨d, w⟩ := c
    simp only [Memory.insert]
    split
    · simp
    · split
      · next h => subst h; by_cases hb : b = a <;> simp [hb]
      · next h =>
        simp only [Memory.read_cons, ih]
        by_cases hb : b = d
        · subst hb; simp; intro e; exact absurd e.symm h
        · simp [hb]

theorem Memory.read_filter (m : Memory) (a b : Nat) :
    Memory.read (m.filter fun c => c.1 != a) b = if b = a then blankByte else Memory.read m b := by
  induction m with
  | nil => simp
  | cons c m ih =>
    obtain ⟨d, w⟩ := c
    by_cases hd : d = a
    · subst hd
      simp only [List.filter_cons, bne_self_eq_false, Bool.false_eq_true, if_false, ih, Memory.read_cons]
      by_cases hb : b = d <;> simp [hb]
    · have : ((d, w) : Host.Cell).1 != a := by simpa using hd
      simp only [List.filter_cons, this, if_true, Memory.read_cons, ih]
      by_cases hb : b = d
      · subst hb; simp [hd]
      · simp [hb]

/-- Read after write (R183): the byte written reads as written, every other byte as before. -/
theorem Memory.read_write (m : Memory) (a : Nat) (v : Byte) (b : Nat) :
    Memory.read (Memory.write m a v) b = if b = a then v else Memory.read m b := by
  unfold Memory.write
  split
  · next h => subst h; exact Memory.read_filter m a b
  · exact Memory.read_insert m a v b

theorem Memory.mem_insert {m : Memory} {a : Nat} {v : Byte} {c : Host.Cell} (h : c ∈ Memory.insert m a v) :
    c = (a, v) ∨ c ∈ m := by
  induction m with
  | nil => simpa [Memory.insert] using h
  | cons d m ih =>
    obtain ⟨b, w⟩ := d
    simp only [Memory.insert] at h
    split at h
    · simpa using h
    · split at h
      · rcases List.mem_cons.1 h with h | h
        · exact .inl h
        · exact .inr (by simp [h])
      · rcases List.mem_cons.1 h with h | h
        · exact .inr (by simp [h])
        · rcases ih h with h | h
          · exact .inl h
          · exact .inr (by simp [h])

theorem Memory.insert_sorted {m : Memory} (a : Nat) (v : Byte) (h : m.Pairwise fun x y => x.1 < y.1) :
    (Memory.insert m a v).Pairwise fun x y => x.1 < y.1 := by
  induction m with
  | nil => simp [Memory.insert]
  | cons d m ih =>
    obtain ⟨b, w⟩ := d
    obtain ⟨h1, h2⟩ := List.pairwise_cons.1 h
    simp only [Memory.insert]
    split
    · next hab =>
      refine List.pairwise_cons.2 ⟨fun c hc => ?_, h⟩
      rcases List.mem_cons.1 hc with rfl | hc
      · exact hab
      · exact Nat.lt_trans hab (h1 c hc)
    · split
      · next hab => subst hab; exact List.pairwise_cons.2 ⟨fun c hc => h1 c hc, h2⟩
      · next hab hne =>
        refine List.pairwise_cons.2 ⟨fun c hc => ?_, ih h2⟩
        rcases Memory.mem_insert hc with rfl | hc
        · show b < a; omega
        · exact h1 c hc

/-- A write keeps the canonical form. -/
theorem Memory.write_wf {m : Memory} (a : Nat) (v : Byte) (h : Memory.wf m = true) :
    Memory.wf (Memory.write m a v) = true := by
  obtain ⟨h1, h2⟩ := Memory.wf_iff.1 h
  unfold Memory.write
  split
  · exact Memory.wf_iff.2 ⟨h1.filter _, fun c hc => h2 c (List.mem_filter.1 hc).1⟩
  · next hv =>
    refine Memory.wf_iff.2 ⟨Memory.insert_sorted a v h1, fun c hc => ?_⟩
    rcases Memory.mem_insert hc with rfl | hc
    · exact hv
    · exact h2 c hc

/-- Several writes keep the canonical form. -/
theorem Memory.writeAll_wf {m : Memory} (cells : List Host.Cell) (h : Memory.wf m = true) :
    Memory.wf (Memory.writeAll m cells) = true := by
  induction cells generalizing m with
  | nil => exact h
  | cons c cells ih => exact ih (Memory.write_wf c.1 c.2 h)

@[simp] theorem Memory.writeAll_nil (m : Memory) : Memory.writeAll m [] = m := rfl

@[simp] theorem Memory.writeAll_cons (m : Memory) (c : Host.Cell) (cells : List Host.Cell) :
    Memory.writeAll m (c :: cells) = Memory.writeAll (Memory.write m c.1 c.2) cells := rfl

theorem Memory.writeAll_append (m : Memory) (a b : List Host.Cell) :
    Memory.writeAll m (a ++ b) = Memory.writeAll (Memory.writeAll m a) b := by
  simp [Memory.writeAll]

/-- A byte that none of the writes names reads as before. -/
theorem Memory.read_writeAll_other (m : Memory) (cells : List Host.Cell) (b : Nat) (h : ∀ c ∈ cells, c.1 ≠ b) :
    Memory.read (Memory.writeAll m cells) b = Memory.read m b := by
  induction cells generalizing m with
  | nil => rfl
  | cons c cells ih =>
    rw [Memory.writeAll_cons, ih _ fun d hd => h d (by simp [hd]), Memory.read_write]
    have : b ≠ c.1 := fun e => h c (by simp) e.symm
    simp [this]

/-- Writing a byte to each of the first `n` addresses. -/
theorem Memory.read_writeAll_run (m : Memory) (g : Nat → Byte) (n b : Nat) :
    Memory.read (Memory.writeAll m ((List.range n).map fun a => (a, g a))) b =
      if b < n then g b else Memory.read m b := by
  induction n with
  | zero => simp
  | succ n ih =>
    rw [List.range_succ, List.map_append, Memory.writeAll_append]
    simp only [List.map_cons, List.map_nil, Memory.writeAll_cons, Memory.writeAll_nil, Memory.read_write, ih]
    by_cases h : b = n
    · simp [h]
    · have : b < n + 1 ↔ b < n := by omega
      simp [h, this]

/-- The memory right after a power-on reset is in canonical form. -/
theorem reset_image_wf : Memory.wf State.reset.image = true := by decide

end Sys2Proof.Machine
end

