-- ==== Sys2Proof/Laws/PerInstr.lean ====
section
/-! SUPPORT. A statement about every command as syntax, with one lemma for each. -/

namespace Sys2Proof.Laws

/-- The body of a request is one that LEN can give: 2 to 56 bytes (R157). -/
def BodyLength.Statement (i : Instr) : Prop :=
  i.wf = true → ∀ p body, encodeBody i = some (p, body) → 2 ≤ body.length ∧ body.length ≤ 56

theorem BodyLength.openPlane (p tag) : BodyLength.Statement (.openPlane p tag) := by
  intro _ q body h
  cases h
  exact ⟨by simp, by simp⟩

theorem BodyLength.closePlane (p tag) : BodyLength.Statement (.closePlane p tag) := by
  intro _ q body h
  cases h
  exact ⟨by simp, by simp⟩

theorem BodyLength.claim (p tag line serial) : BodyLength.Statement (.claim p tag line serial) := by
  intro _ q body h
  cases h
  exact ⟨by simp, by simp⟩

theorem BodyLength.release (p tag line) : BodyLength.Statement (.release p tag line) := by
  intro _ q body h
  cases h
  exact ⟨by simp, by simp⟩

theorem BodyLength.takeover (p tag) : BodyLength.Statement (.takeover p tag) := by
  intro _ q body h
  cases h
  exact ⟨by simp, by simp⟩

theorem BodyLength.ring (p tag line party cls limit progress) : BodyLength.Statement (.ring p tag line party cls limit progress) := by
  intro _ q body h
  cases h
  exact ⟨by simp, by simp⟩

theorem BodyLength.cancelRing (p tag line) : BodyLength.Statement (.cancelRing p tag line) := by
  intro _ q body h
  cases h
  exact ⟨by simp, by simp⟩

theorem BodyLength.promote (p tag line cls) : BodyLength.Statement (.promote p tag line cls) := by
  intro _ q body h
  cases h
  exact ⟨by simp, by simp⟩

theorem BodyLength.revert (p tag line caller called ringCaller limit) : BodyLength.Statement (.revert p tag line caller called ringCaller limit) := by
  intro _ q body h
  cases h
  exact ⟨by simp, by simp⟩

theorem BodyLength.cancelRevert (p tag line) : BodyLength.Statement (.cancelRevert p tag line) := by
  intro _ q body h
  cases h
  exact ⟨by simp, by simp⟩

theorem BodyLength.setPolicy (p tag policy) : BodyLength.Statement (.setPolicy p tag policy) := by
  intro _ q body h
  cases h
  exact ⟨by simp, by simp⟩

theorem BodyLength.fetch (p tag) : BodyLength.Statement (.fetch p tag) := by
  intro _ q body h
  cases h
  exact ⟨by simp, by simp⟩

theorem BodyLength.lineStatus (p tag line) : BodyLength.Statement (.lineStatus p tag line) := by
  intro _ q body h
  cases h
  exact ⟨by simp, by simp⟩

theorem BodyLength.feedStatus (p tag feed) : BodyLength.Statement (.feedStatus p tag feed) := by
  intro _ q body h
  cases h
  exact ⟨by simp, by simp⟩

theorem BodyLength.portStatus (p tag) : BodyLength.Statement (.portStatus p tag) := by
  intro _ q body h
  cases h
  exact ⟨by simp, by simp⟩

theorem BodyLength.readLine (p tag line) : BodyLength.Statement (.readLine p tag line) := by
  intro _ q body h
  cases h
  exact ⟨by simp, by simp⟩

theorem BodyLength.readStation (p tag line party) : BodyLength.Statement (.readStation p tag line party) := by
  intro _ q body h
  cases h
  exact ⟨by simp, by simp⟩

theorem BodyLength.readPattern (p tag pattern) : BodyLength.Statement (.readPattern p tag pattern) := by
  intro _ q body h
  cases h
  exact ⟨by simp, by simp⟩

theorem BodyLength.readFeed (p tag feed) : BodyLength.Statement (.readFeed p tag feed) := by
  intro _ q body h
  cases h
  exact ⟨by simp, by simp⟩

theorem BodyLength.readFault (p tag) : BodyLength.Statement (.readFault p tag) := by
  intro _ q body h
  cases h
  exact ⟨by simp, by simp⟩

theorem BodyLength.writeLine (p tag line admin base count allowance limit guarded) : BodyLength.Statement (.writeLine p tag line admin base count allowance limit guarded) := by
  intro _ q body h
  cases h
  exact ⟨by simp, by simp⟩

theorem BodyLength.writeStation (p tag line party enabled home side pattern load selective guarded) : BodyLength.Statement (.writeStation p tag line party enabled home side pattern load selective guarded) := by
  intro _ q body h
  cases h
  exact ⟨by simp, by simp⟩

theorem BodyLength.writePattern (p tag pattern count on1 off1 on2 off2 on3 off3 on4 off4) : BodyLength.Statement (.writePattern p tag pattern count on1 off1 on2 off2 on3 off3 on4 off4) := by
  intro _ q body h
  cases h
  exact ⟨by simp, by simp⟩

theorem BodyLength.writeFeed (p tag feed freq capacity fallback) : BodyLength.Statement (.writeFeed p tag feed freq capacity fallback) := by
  intro _ q body h
  cases h
  exact ⟨by simp, by simp⟩

theorem BodyLength.resetLine (p tag line) : BodyLength.Statement (.resetLine p tag line) := by
  intro _ q body h
  cases h
  exact ⟨by simp, by simp⟩

theorem BodyLength.save (p tag) : BodyLength.Statement (.save p tag) := by
  intro _ q body h
  cases h
  exact ⟨by simp, by simp⟩

theorem BodyLength.reset (p tag) : BodyLength.Statement (.reset p tag) := by
  intro _ q body h
  cases h
  exact ⟨by simp, by simp⟩

theorem BodyLength.clearFault (p tag) : BodyLength.Statement (.clearFault p tag) := by
  intro _ q body h
  cases h
  exact ⟨by simp, by simp⟩

theorem BodyLength.clearFeedFault (p tag feed) : BodyLength.Statement (.clearFeedFault p tag feed) := by
  intro _ q body h
  cases h
  exact ⟨by simp, by simp⟩

theorem BodyLength.forceSenseLoss (p tag feed value) : BodyLength.Statement (.forceSenseLoss p tag feed value) := by
  intro _ q body h
  cases h
  exact ⟨by simp, by simp⟩

theorem BodyLength.clearCause (p tag) : BodyLength.Statement (.clearCause p tag) := by
  intro _ q body h
  cases h
  exact ⟨by simp, by simp⟩

theorem BodyLength.badRequest (p tag kind args) : BodyLength.Statement (.badRequest p tag kind args) := by
  intro hw q body h
  cases h
  simp only [Instr.wf, wfBadRequest, Bool.and_eq_true, decide_eq_true_eq] at hw
  simp only [List.length_cons]
  omega

theorem BodyLength.linkByteReceived (p byte stopHigh) : BodyLength.Statement (.linkByteReceived p byte stopHigh) := by
  intro _ q body h
  cases h

theorem BodyLength.byteGapTimeout (p) : BodyLength.Statement (.byteGapTimeout p) := by
  intro _ q body h
  cases h

theorem BodyLength.responseSent (p) : BodyLength.Statement (.responseSent p) := by
  intro _ q body h
  cases h

theorem BodyLength.cadenceTick : BodyLength.Statement .cadenceTick := by
  intro _ q body h
  cases h

theorem BodyLength.noAnswer (line) : BodyLength.Statement (.noAnswer line) := by
  intro _ q body h
  cases h

theorem BodyLength.waitExpired (line) : BodyLength.Statement (.waitExpired line) := by
  intro _ q body h
  cases h

theorem BodyLength.noHangup (line) : BodyLength.Statement (.noHangup line) := by
  intro _ q body h
  cases h

theorem BodyLength.scannerSample (inputs) : BodyLength.Statement (.scannerSample inputs) := by
  intro _ q body h
  cases h

theorem BodyLength.burstGuardEnd (input) : BodyLength.Statement (.burstGuardEnd input) := by
  intro _ q body h
  cases h

theorem BodyLength.offHookFinding (line) : BodyLength.Statement (.offHookFinding line) := by
  intro _ q body h
  cases h

theorem BodyLength.onHookFinding (line) : BodyLength.Statement (.onHookFinding line) := by
  intro _ q body h
  cases h

theorem BodyLength.flashFinding (line) : BodyLength.Statement (.flashFinding line) := by
  intro _ q body h
  cases h

theorem BodyLength.tripFinding (line) : BodyLength.Statement (.tripFinding line) := by
  intro _ q body h
  cases h

theorem BodyLength.relayFault (input) : BodyLength.Statement (.relayFault input) := by
  intro _ q body h
  cases h

theorem BodyLength.feedSample (inputs) : BodyLength.Statement (.feedSample inputs) := by
  intro _ q body h
  cases h

theorem BodyLength.feedFail (feed) : BodyLength.Statement (.feedFail feed) := by
  intro _ q body h
  cases h

theorem BodyLength.feedRecovery (feed) : BodyLength.Statement (.feedRecovery feed) := by
  intro _ q body h
  cases h

theorem BodyLength.fbRecovery : BodyLength.Statement .fbRecovery := by
  intro _ q body h
  cases h

theorem BodyLength.batteryReading (reading) : BodyLength.Statement (.batteryReading reading) := by
  intro _ q body h
  cases h

theorem BodyLength.batteryState (reading) : BodyLength.Statement (.batteryState reading) := by
  intro _ q body h
  cases h

theorem BodyLength.referenceLost : BodyLength.Statement .referenceLost := by
  intro _ q body h
  cases h

theorem BodyLength.referenceRestored (gap) : BodyLength.Statement (.referenceRestored gap) := by
  intro _ q body h
  cases h

theorem BodyLength.powerOnReset : BodyLength.Statement .powerOnReset := by
  intro _ q body h
  cases h

theorem BodyLength.supplyDip : BodyLength.Statement .supplyDip := by
  intro _ q body h
  cases h

theorem BodyLength.resetPin : BodyLength.Statement .resetPin := by
  intro _ q body h
  cases h

theorem BodyLength.commandedReset : BodyLength.Statement .commandedReset := by
  intro _ q body h
  cases h

theorem BodyLength.load (silent) : BodyLength.Statement (.load silent) := by
  intro _ q body h
  cases h

theorem BodyLength.run : BodyLength.Statement .run := by
  intro _ q body h
  cases h

theorem BodyLength.saveDone (report) : BodyLength.Statement (.saveDone report) := by
  intro _ q body h
  cases h

theorem BodyLength.referenceEdge (gap) : BodyLength.Statement (.referenceEdge gap) := by
  intro _ q body h
  cases h

end Sys2Proof.Laws
end

