-- ==== Sys2Proof/Tests/Slice0.lean ====
section
/-! SUPPORT. Tests: a small shelf, the checks of `Instr.wf`, worked cases of the manual one step at a time, and for
each statement with hypotheses a state and operands that meet them. -/

namespace Sys2Proof.Machine

-- Many short kernel evaluations: one after another, so that their threads do not add up.
set_option Elab.async false

/-! ### A small shelf -/

/-- Line 3: ENABLED, stations 0 and 1, allowance 5, frame limit 3, on-hook. -/
def demoLine : Line :=
  { Line.reset with
    desc := { admin := .enabled, base := 0, count := 2, allowance := 5, frameLimit := 3, guarded := false }
    supervision := .onHook }

def demoStation : Station := { Station.default with enabled := true }

/-- In RUN, both planes in service, line 3 in use, F1 and FB with room. -/
def shelf : State :=
  { State.reset with
    phase := .run, serviceA := .inService, serviceB := .inService
    lines := State.reset.lines.set 3 demoLine
    stations := (State.reset.stations.set 0 demoStation).set 1 demoStation
    feeds := (State.reset.feeds.set 0 { FeedRecord.reset with capacity := 100, fallback := true }).set 4
      { FeedRecord.reset with capacity := 60 } }

/-- Line 3 changed. -/
def shelfLine (g : Line → Line) : State := shelf.modLine 3 g

/-- A job for line 3, party 0, station 0 on F1. -/
def demoJob : Job :=
  { line := 3, party := 0, station := some 0, owner := .a, cls := 1, pattern := some 0, load := some 15,
    home := some .f1, current := some .f1, state := .waiting, phase := none, framesRung := 0, frameLimit := 3,
    progress := false, waitTimer := 0, shedCount := 0, turn := none }

def ringingJob : Job := { demoJob with state := .ringing, phase := some 2 }

def placedJob : Job := { demoJob with state := .placed, phase := some 2 }

def reservedJob : Job :=
  { demoJob with
    station := none, pattern := none, load := none, home := none, current := none, state := .reserved, cls := 2
    turn := some .called }

def demoRevert : Revert :=
  { line := 3, caller := 0, called := 1, ringCaller := true, owner := .a, state := .awaitHangup, hangupTimer := 0,
    frameLimit := 3 }

/-- The shelf with this job on line 3, bound to Port A. -/
def withJob (j : Job) : State := (shelfLine fun x => { x with owner := some .a }).addJob j

/-- The shelf with a revert and its job on line 3, bound to Port A. -/
def withRevert (r : Revert) (j : Job) : State := (withJob j).addRevert r

/-- The shelf with a SAVE in flight, with line 3 FAULTED, with party 1 of line 3 not ENABLED, and with a full pool. -/
def saving : State := { shelf with save := some { contents := [], before := [] } }

def faultedShelf : State := shelfLine fun x => { x with desc := { x.desc with admin := .faulted } }

def emptyStation : State := shelf.setStation 1 Station.default

def fullPool : State := { shelf with jobs := List.replicate 24 { demoJob with line := 4 } }

/-- Two jobs that ring at the same positions on F1, more than it carries; the newer one is the victim. -/
def strainedJob : Job := { ringingJob with line := 4 }

def strained : State := { shelf.modFeed .f1 fun x => { x with capacity := 20 } with jobs := [ringingJob, strainedJob] }

/-- What one command leaves of a state. -/
def after (c : Instr) (s : State) : State :=
  match exec c s with
  | .next t => t
  | _ => s

/-- The response a port sends after one command. -/
def reply (c : Instr) (p : Port) (s : State) : List Byte := ((after c s).port p).response.getD []

/-! ### Ill-formed commands are refused by `Instr.wf` -/

/-- RELEASE with its one argument is no BAD_REQUEST. -/
theorem test_wf_badRequest_named : (Instr.badRequest .a 0 0x04 [9]).wf = false := by decide
/-- A body holds at most 54 argument bytes (R157). -/
theorem test_wf_badRequest_long : (Instr.badRequest .a 0 0x20 (List.replicate 55 0)).wf = false := by decide
theorem test_wf_badRequest : (Instr.badRequest .a 0 0x20 (List.replicate 54 0)).wf = true := by decide
theorem test_wf_scannerSample_short : (Instr.scannerSample []).wf = false := by decide
theorem test_wf_scannerSample_twice :
    (Instr.scannerSample (List.replicate 32 ⟨0, false, false, false⟩)).wf = false := by decide
theorem test_wf_feedSample_short : (Instr.feedSample [⟨.f1, true⟩]).wf = false := by decide
theorem test_wf_feedSample_twice : (Instr.feedSample (List.replicate 5 ⟨.f1, true⟩)).wf = false := by decide
theorem test_wf_feedRecovery : (Instr.feedRecovery .fb).wf = false := by decide
theorem test_wf_referenceRestored : (Instr.referenceRestored 251).wf = false := by decide
theorem test_wf_load : (Instr.load [1133]).wf = false := by decide
theorem test_wf_saveDone :
    (Instr.saveDone ⟨0, [(1133, 0)], true, true, true⟩).wf = false := by decide

/-! ### Frames and bodies (R158, R187) -/

/-- The check over the nine bytes 0x31 to 0x39 is 0x29B1 (R158). -/
theorem test_frameCheck :
    frameCheck [0x31, 0x32, 0x33, 0x34, 0x35, 0x36, 0x37, 0x38, 0x39] = 0x29B1 := by decide +kernel
/-- RING for line 9, party 2, class 1, frame limit 0, with a progress notice. -/
theorem test_body_ring : decodeBody .b [0x11, 0x06, 9, 2, 1, 0, 1] = some (.ring .b 0x11 9 2 1 0 1) := by decide
/-- WRITE_FEED of F2 at code 1 with capacity 600, high byte first, and fallback allowed. -/
theorem test_body_writeFeed :
    decodeBody .m [0x12, 0x18, 1, 1, 0x02, 0x58, 1] = some (.writeFeed .m 0x12 1 1 600 1) := by decide
theorem test_body_open : decodeBody .a [0x10, 0x01] = some (.openPlane .a 0x10) := by decide
theorem test_body_unnamed : decodeBody .m [0x14, 0x20] = some (.badRequest .m 0x14 0x20 []) := by decide
/-- CLAIM with one argument byte instead of two. -/
theorem test_body_short : decodeBody .a [0x15, 0x03, 0x04] = some (.badRequest .a 0x15 0x03 [0x04]) := by decide
/-- The table gives no bits (log 23). -/
theorem test_decodeTableWord : decodeTableWord 8 0x06 = none := by decide

/-! ### Worked cases -/

/-- 1.10: 186 + 8 is above 192. -/
theorem test_writeLine_badRange :
    reply (.writeLine .m 7 4 1 186 8 0 10 0) .m shelf = [7, 0x95, 0x15] := by decide +kernel
/-- 1.10: 184 + 8 is 192; the line is enabled and its supervision starts at ON_HOOK. -/
theorem test_writeLine_enables :
    ((after (.writeLine .m 7 4 1 184 8 0 10 1) shelf).line 4).supervision = .onHook := by decide +kernel
/-- 1.10: load 65 saturates to 50, and the response names the pool index. -/
theorem test_writeStation_saturates :
    reply (.writeStation .m 7 3 1 1 1 0 3 65 0 0) .m shelf = [7, 0x96, 0, 1, 1, 1, 3, 50] := by decide +kernel
/-- 2.10: J3 arriving at position 23 begins 2 ticks later, at phase 5. -/
theorem test_ring_nextPhase :
    (reply (.ring .a 7 3 0 1 0 0) .a { shelf with pos := 23 }).take 6 = [7, 0x86, 0, 2, 5, 2] := by decide +kernel
/-- 5.8: at position 59 the search starts at phase 0, and J8 meets J7 at phases 0 to 3. -/
theorem test_search_wraps :
    let j7 : Job := { ringingJob with line := 4, phase := some 0, load := some 40 }
    ({ shelf with pos := 59, jobs := [j7], feeds := shelf.feeds.set 0 { FeedRecord.reset with capacity := 60 } }
      ).findPhase .f1 (Pattern.default 2) 23 = some 4 := by decide +kernel
/-- 3.11: at stamp 1349 CANCEL_RING reports RINGING, frames rung 1 and shed count 0. -/
theorem test_cancelRing_reports :
    (reply (.cancelRing .a 7 3) .a (withJob { ringingJob with framesRung := 1 })).take 6 = [7, 0x87, 0, 3, 1, 0] := by
  decide +kernel
/-- 3.11: frame 2 of 3 done gives RING_PROGRESS with frames rung 2, at ceil(3 / 2). -/
theorem test_progress :
    (((after .cadenceTick { withJob { ringingJob with framesRung := 1, progress := true } with pos := 9, stamp := 1329 }
      ).port .a).queue) =
      [{ kind := .ringProgress, line := some 3, party := some 0, detail := 2, serial := none, stamp := 1330 }] := by
  decide +kernel
/-- 4.11 case 1: the sixth closed sample takes CLOSING to OFF_HOOK. -/
theorem test_sixth_closed : loopTable .closing 5 true = (.offHook, 0, some .offHook) := by decide
/-- 4.12 step 2: a break of 50 ms is a hit, not a flash. -/
theorem test_hit : loopTable .opening 5 true = (.offHook, 0, none) := by decide
/-- 4.12 step 5: thirty open samples are a flash of duration 30. -/
theorem test_flash : loopTable .opening 30 true = (.offHook, 0, some (.flash 30)) := by decide
/-- 4.12 step 6: RELEASE of an off-hook line parks it. -/
theorem test_release_parks :
    reply (.release .b 7 3) .b (shelfLine fun x => { x with supervision := .offHook, owner := some .b }) =
      [7, 0x84, 0, 1] := by decide +kernel
/-- 4.12 step 4: a CLAIM of a line held by the other plane. -/
theorem test_claim_heldByOther :
    reply (.claim .a 7 3 0) .a (shelfLine fun x => { x with supervision := .offHook, owner := some .b }) =
      [7, 0x83, 0x0A] := by decide +kernel
/-- R86: RELEASE between the 70th open sample and its finding parks the line. -/
theorem test_release_beforeHangUp :
    reply (.release .b 7 3) .b ((shelfLine fun x => { x with owner := some .b }).makeFinding 3 .onHook) =
      [7, 0x84, 0, 1] := by decide +kernel
/-- R86: CLAIM there binds, and the finding then reports LINE_ON_HOOK to the new owner. -/
theorem test_claim_beforeHangUp :
    let t := after (.claim .a 7 3 0) (shelf.makeFinding 3 .onHook)
    (t.line 3).owner = some .a ∧
    (((after (.onHookFinding 3) t).port .a).queue.map (·.kind)) = [.lineOnHook] := by decide +kernel
/-- R112: CANCEL_REVERT there keeps the binding. -/
theorem test_cancelRevert_beforeHangUp :
    ((after (.cancelRevert .a 7 3) ((withRevert demoRevert reservedJob).makeFinding 3 .onHook)).line 3).owner =
      some .a := by decide +kernel
/-- R49: the pass under CLASS places the class 2 job of line 4 first, under ARRIVAL the older job of line 3. -/
theorem test_policy_orders_the_pass :
    let s := { shelf with jobs := [{ demoJob with load := some 60 }, { demoJob with line := 4, cls := 2, load := some 60 }] }
    let phases (c : Instr) := (after c s).jobs.map (·.phase)
    phases (.setPolicy .m 7 0) = [some 5, some 1] ∧ phases (.setPolicy .m 7 1) = [some 1, some 5] := by decide +kernel
/-- 6.9: CLEAR_FEED_FAULT answers with the state and the latch as it stood. -/
theorem test_clearFeedFault :
    reply (.clearFeedFault .m 7 0) .m (shelf.modFeed .f1 fun x => { x with latch := true }) = [7, 0x9D, 0, 0, 1] := by
  decide +kernel
/-- 6.9: the failure of a feed puts a non-selective job on FB and freezes the record. -/
theorem test_feedFail_falls_back :
    let t := after (.feedFail .f1) ((withJob ringingJob).modFeed .f1 fun x => { x with absentRun := 29 })
    (t.job? 3).map (·.current) = some (some .fb) ∧ (t.feed .f1).frozen = true := by decide +kernel
/-- 7.6 reading 8: a run whose reach is LOW moves the level to LOW, although the reading is below 420. -/
theorem test_battery_reach :
    (after (.batteryReading 418)
      { shelf with battery := { level := .normal, direction := .fall, count := 3, reach := some .low } }
      ).battery.level = .low := by decide +kernel
/-- 7.6: at LOW a feed of capacity 80 carries 60, at CRITICAL 32. -/
theorem test_derating :
    let s := shelf.modFeed .f1 fun x => { x with capacity := 80 }
    { s with battery := { s.battery with level := .low } }.effectiveCapacity .f1 = 60 ∧
    { s with battery := { s.battery with level := .critical } }.effectiveCapacity .f1 = 32 := by decide +kernel
/-- 8.8: TAKEOVER moves the lines of the other plane and counts them. -/
theorem test_takeover :
    reply (.takeover .b 7) .b (withJob ringingJob) = [7, 0x85, 0, 1] := by decide +kernel
/-- Line 3, off-hook, as Port B's TAKEOVER has moved it away from Port A. -/
def movedShelf : State := after (.takeover .b 7) (shelfLine fun x => { x with owner := some .a, supervision := .offHook })
/-- R97, R114, R154: after a TAKEOVER the old plane's REVERT is refused HELD_BY_OTHER, its CANCEL_REVERT NOT_IN_SERVICE. -/
theorem test_revert_after_takeover :
    reply (.revert .a 8 3 0 1 1 10) .a movedShelf = [8, 0x89, 0x0A] ∧
    reply (.cancelRevert .a 8 3) .a movedShelf = [8, 0x8A, 0x06] := by decide +kernel
/-- R144: a plane that has closed, and one that was taken over but names a line not moved from it. -/
theorem test_revert_out_of_service :
    reply (.revert .a 8 3 0 1 1 10) .a { movedShelf with takenOver := none } = [8, 0x89, 0x06] ∧
    reply (.revert .a 8 4 0 1 1 10) .a movedShelf = [8, 0x89, 0x06] := by decide +kernel
/-- 9.7: the 33rd event sets the flag and is not stored. -/
theorem test_overflow :
    let e : Event := shelf.plainEvent .start 0
    let s := shelf.modPort .b fun r => { r with queue := List.replicate 32 e }
    ((s.enqueue .b e).port .b).queue.length = 32 ∧ ((s.enqueue .b e).port .b).overflow = true := by decide +kernel
/-- 10.6: the second fault joins the missed kinds and posts nothing. -/
theorem test_second_fault :
    let t := (shelf.capture .feedFail (some .f4) none).capture .batteryCritical none none
    t.faultRecord = some { kind := .feedFail, feed := some .f4, line := none, stamp := 0 } ∧
    t.missed = { MissedKinds.empty with batteryCritical := true } ∧ (t.port .m).queue.length = 1 := by decide +kernel
/-- 11.6: SAVE is answered ACCEPTED, and a write then waits. -/
theorem test_save_then_write :
    let t := after (.responseSent .m) (after (.save .m 7) shelf)
    reply (.writeStation .m 8 3 0 1 0 0 0 10 0 0) .m t = [8, 0x96, 0x18] := by decide +kernel
/-- 11.6: after a power-on reset a blank memory gives START(DEFAULTS, POWER) and FAULT_CAPTURED(IMAGE_INVALID). -/
theorem test_first_start :
    ((after .run (after (.load []) State.reset)).port .m).queue.map (fun e => (e.kind, e.detail)) =
      [(.start, 0x0101), (.faultCaptured, 0x02FF)] := by decide +kernel

/-- R171, R176: IMAGE_INVALID is captured in LOAD, its event held; a FULL record takes the kind into the missed kinds. -/
theorem test_load_captures :
    let t := after (.load []) State.reset
    let u := after (.load []) (State.reset.capture .saveFailed none none)
    t.faultRecord = some { kind := .imageInvalid, feed := none, line := none, stamp := 0 } ∧ (t.port .m).queue = [] ∧
    u.missed = { MissedKinds.empty with imageInvalid := true } ∧ u.heldCapture = false := by decide +kernel
/-- R176: a pin reset in LOAD keeps the record that LOAD filled, and its FAULT_CAPTURED is not posted again. -/
theorem test_pin_reset_in_load :
    let t := after .resetPin (after (.load []) State.reset)
    t.phase = .hold ∧ t.faultRecord = some { kind := .imageInvalid, feed := none, line := none, stamp := 0 } ∧
    ((after .run (after (.load []) t)).port .m).queue.map (·.kind) = [.start] := by decide +kernel
/-- R40, R41: the newer of two jobs of one class is shed, and the pass of WRITE_FEED places it elsewhere. -/
theorem test_shed_takes_the_newer :
    (strained.shedFeed .f1).jobs =
      [ringingJob, { strainedJob with state := .waiting, phase := none, shedCount := 1 }] := by decide +kernel

/-! ### States and operands that meet the hypotheses of the statements -/

theorem witness_StepTakesFrontCommand : shelf.pending = [] := by decide +kernel

theorem witness_RequestBodiesRoundTrip :
    (Instr.badRequest .m 1 0x06 []).wf = true ∧
    encodeBody (.badRequest .m 1 0x06 []) = some (.m, [1, 0x06]) ∧
    decodeBody .a [1, 0x03, 31, 255] = some (.claim .a 1 31 255) := by decide

/-- Bodies of 2 and of 56 bytes, a buffer that holds a frame, and a response in progress. -/
theorem witness_FrameIsReceivedByItsCheck :
    let full := after (.portStatus .a 1) shelf
    shelf.phase ≠ .hold ∧ (shelf.port .a).receiver.state = .hunt ∧ (shelf.port .a).buffer = none ∧
    ([1, 0x0F] : List Byte).length = 2 ∧ (List.replicate 56 (0 : Byte)).length = 56 ∧
    full.phase ≠ .hold ∧ (full.port .a).receiver.state = .hunt ∧ (full.port .a).buffer = some ⟨[1, 0x0F], true⟩ ∧
    (full.port .a).response = some (reply (.portStatus .a 1) .a shelf) ∧
    (reply (.portStatus .a 1) .a shelf).length ≤ 255 := by decide +kernel

theorem witness_ReceiverTakesBytesAndGaps :
    shelf.phase ≠ .hold ∧ (shelf.port .a).receiver.state = .hunt ∧
    ((after (.linkByteReceived .a 0xA5 true) shelf).port .a).receiver.state = .length ∧
    ((after (.portStatus .a 1) shelf).port .a).response = some (reply (.portStatus .a 1) .a shelf) := by decide +kernel

/-- An empty buffer, and one that holds the request's own frame, untaken. -/
theorem witness_EveryRequestIsAnswered :
    let own := shelf.modPort .b fun r => { r with buffer := some ⟨[9, 0x0C], false⟩ }
    (Instr.fetch .b 9).wf = true ∧ encodeBody (.fetch .b 9) = some (.b, 9 :: 0x0C :: []) ∧
    shelf.phase = .run ∧ (shelf.port .b).buffer = none ∧
    own.phase = .run ∧ (own.port .b).buffer = some ⟨9 :: 0x0C :: [], false⟩ := by
  decide +kernel

/-- In LOAD with an empty buffer and with its own frame untaken in it, in HOLD, behind an untaken frame, behind a taken
one, and a frame that names no request. -/
theorem witness_RequestsThatAreNotDone :
    (Instr.fetch .b 9).wf = true ∧ encodeBody (.fetch .b 9) = some (.b, 9 :: 0x0C :: []) ∧
    (after (.load []) State.reset).phase = .load ∧ ((after (.load []) State.reset).port .b).buffer = none ∧
    (let own := (after (.load []) State.reset).modPort .b fun r => { r with buffer := some ⟨[9, 0x0C], false⟩ }
     own.phase = .load ∧ (own.port .b).buffer = some ⟨9 :: 0x0C :: [], false⟩) ∧
    State.reset.phase = .hold ∧
    ((after (.fetch .b 9) shelf).port .b).buffer = some ⟨[9, 0x0C], true⟩ ∧
    ((shelf.modPort .b fun r => { r with buffer := some ⟨[8, 0x0C], false⟩ }).port .b).buffer =
      some ⟨[8, 0x0C], false⟩ ∧ ([8, 0x0C] : List Byte) ≠ [9, 0x0C] ∧
    namesNoRequest 0x20 [] = true ∧ namesNoRequest 0x03 [1] = true ∧ Ready shelf .b := by
  unfold Ready; decide +kernel

/-- OPEN from Port M, SAVE from Port A, and FETCH and REVERT from a plane that is out of service and not taken over. -/
theorem witness_PortControlRefuses :
    let s := { shelf with serviceB := .outOfService }
    (Instr.openPlane .m 1).wf = true ∧ encodeBody (.openPlane .m 1) = some (.m, 1 :: Kind.openPlane.code :: []) ∧
    encodeBody (.save .a 1) = some (.a, 1 :: Kind.save.code :: []) ∧
    encodeBody (.fetch .b 1) = some (.b, 1 :: Kind.fetch.code :: []) ∧
    Ready s .m ∧ Ready s .a ∧ Ready s .b ∧ s.inService .b = false ∧
    encodeBody (.revert .b 1 3 0 1 1 0) = some (.b, 1 :: Kind.revert.code :: [3, 0, 1, 1, 0]) ∧
    ∀ l, ¬MovedAway s .b l := by
  unfold Ready
  refine ⟨by decide, by decide, by decide, by decide, by decide +kernel, by decide +kernel, by decide +kernel,
    by decide +kernel, by decide, ?_⟩
  rintro l ⟨⟨x, h, _⟩, _⟩
  exact nomatch (show (none : Option TakenOver) = some x from h)

/-- An origination raised on line 3; the same with its hang-up still waiting; and none anywhere. -/
theorem witness_OpenGivesAFreshView :
    let raised := shelfLine fun x => { x with supervision := .offHook }
    let hung := shelf.makeFinding 3 .onHook
    Port.b ≠ .m ∧ ([3] : List (Fin 32)).Pairwise (· < ·) ∧
    (Ready raised .b ∧ ∀ l, l ∈ ([3] : List (Fin 32)) ↔ OriginationStands raised l) ∧
    (Ready hung .b ∧ ∀ l, l ∈ ([3] : List (Fin 32)) ↔ OriginationStands hung l) ∧
    Ready shelf .b ∧ ∀ l, l ∈ ([] : List (Fin 32)) ↔ OriginationStands shelf l := by
  unfold Ready OriginationStands MetOffHook OffHookWaits; decide +kernel

/-- A plane that owns line 3, and one that owns no line. -/
theorem witness_CloseLeavesService :
    let s := withJob demoJob
    Port.a ≠ .m ∧ Ready s .a ∧ s.inService .a = true ∧ (∃ l, (s.line l).owner = some .a) ∧
    Ready s .b ∧ s.inService .b = true ∧ ∀ l, (s.line l).owner ≠ some .b := by
  unfold Ready; decide +kernel

/-- Line 32; a wrong serial; an on-hook line; a line of the other plane; a parked one; a repeated claim; a good one, and
one whose hang-up waits. -/
theorem witness_ClaimChecksAndBinds :
    let off (o : Option Port) (parked : Bool) :=
      shelfLine fun x => { x with supervision := .offHook, owner := o, parked := parked }
    (Ready shelf .a ∧ shelf.inService .a = true) ∧ 32 ≤ (32 : Byte).toNat ∧ (3 : Fin 32).val = (3 : Byte).toNat ∧
    (1 : Byte) ≠ (shelf.line 3).serial ∧ (0 : Byte) = (shelf.line 3).serial ∧ ¬MetOffHook shelf 3 ∧
    MetOffHook (shelf.makeFinding 3 .onHook) 3 ∧
    (MetOffHook (off (some .b) false) 3 ∧ ((off (some .b) false).line 3).owner = some .b) ∧
    (((off none true).line 3).owner = none ∧ ((off none true).line 3).parked = true) ∧
    ((off (some .a) false).line 3).owner = some .a ∧
    (((off none false).line 3).owner = none ∧ ((off none false).line 3).parked = false ∧
      ((off none false).line 3).desc.admin = .enabled) := by
  unfold Ready MetOffHook; decide +kernel

/-- An off-hook line, one whose hang-up waits, and an on-hook one. -/
theorem witness_ReleaseChecksAndParks :
    let s := shelfLine fun x => { x with supervision := .offHook, owner := some .a }
    let hung := (shelfLine fun x => { x with owner := some .a }).makeFinding 3 .onHook
    Ready s .a ∧ Ready s .b ∧ s.inService .a = true ∧ 32 ≤ (255 : Byte).toNat ∧ (3 : Fin 32).val = (3 : Byte).toNat ∧
    (shelf.line 3).owner = none ∧ (s.line 3).owner = some .a ∧ Port.a ≠ .b ∧
    (withJob demoJob).hasJob 3 = true ∧ ((withJob demoJob).line 3).owner = some .a ∧
    s.hasJob 3 = false ∧ s.hasRevert 3 = false ∧ supervisionMet s 3 = .offHook ∧
    (hung.line 3).owner = some .a ∧ supervisionMet hung 3 = .opening ∧ supervisionMet shelf 3 = .onHook := by
  unfold Ready; decide +kernel

theorem witness_TakeoverMovesEveryLine : Ready (withJob demoJob) .b ∧ (withJob demoJob).inService .b = true := by
  unfold Ready; decide +kernel

/-- A good RING; and a state for each refusal, made from the shelf by the one thing that is refused. -/
theorem witness_RingCreatesAJob :
    Ready shelf .m ∧ shelf.inService .m = true ∧ (3 : Fin 32).val = (3 : Byte).toNat ∧
    (1 : Fin 8).val = (1 : Byte).toNat ∧ (1 : Byte).toNat ≤ 1 ∧ (shelf.line 3).desc.admin = .enabled ∧
    (1 : Fin 8).val < (shelf.line 3).desc.count ∧ (1 : Fin 192).val = (shelf.line 3).desc.base.val + (1 : Fin 8).val ∧
    (shelf.station 1).enabled = true ∧ (shelf.line 3).owner = none ∧ shelf.hasJob 3 = false ∧
    shelf.hasRevert 3 = false ∧ supervisionMet shelf 3 = .onHook ∧ shelf.jobs.length < 24 ∧
    32 ≤ (32 : Byte).toNat ∧ 8 ≤ (8 : Byte).toNat ∧ 2 ≤ (2 : Byte).toNat ∧
    (shelf.line 4).desc.admin = .disabled ∧ (faultedShelf.line 3).desc.admin = .faulted ∧
    (shelf.line 3).desc.count ≤ (2 : Fin 8).val ∧ (emptyStation.station 1).enabled = false ∧
    ((withJob demoJob).line 3).owner = some .a ∧ (withJob demoJob).hasJob 3 = true ∧
    supervisionMet (shelf.makeFinding 3 .onHook) 3 ≠ .onHook ∧ (fullPool.hasJob 3 = false ∧ 24 ≤ fullPool.jobs.length) := by
  unfold Ready; decide +kernel

/-- Line 4 rings at positions 20 to 39 and line 5 at 40 to 59, both with load 90. -/
def crowded : State :=
  { withJob demoJob with
    jobs := [demoJob, { ringingJob with line := 4, phase := some 4, load := some 90 },
      { ringingJob with line := 5, phase := some 8, load := some 90 }] }

/-- An empty feed takes the first candidate, a crowded one the twelfth, one of no capacity none; a job that is not
WAITING, and one that the gate holds. -/
theorem witness_PlacementTakesTheFirstFit :
    let fitsAt (s : State) (i : Nat) : Bool :=
      (onSet (s.pattern 0)).all fun u =>
        decide (s.profile .f1 ((u + 5 * (Fin.ofNat 12 (s.pos.val / 5 + 1 + i)).val) % 60) + 15 ≤
          (s.feed .f1).capacity * 100 / 100)
    let empty := (withJob demoJob).modFeed .f1 fun x => { x with capacity := 0 }
    let gated := { withJob demoJob with battery := { shelf.battery with level := .critical } }
    (withJob demoJob).job? 3 = some demoJob ∧ demoJob.state = .waiting ∧ crowded.job? 3 = some demoJob ∧
    (withJob demoJob).battery.level ≠ .critical ∧ fitsAt (withJob demoJob) 0 = true ∧
    (fitsAt crowded 11 = true ∧ ∀ m : Fin 11, fitsAt crowded m.val = false) ∧
    (empty.job? 3 = some demoJob ∧ ∀ i : Fin 12, fitsAt empty i.val = false) ∧
    ((withJob ringingJob).job? 3 = some ringingJob ∧ ringingJob.state ≠ .waiting) ∧
    gated.job? 3 = some demoJob ∧ gated.battery.level = .critical ∧ demoJob.cls.val ≤ 1 := by
  decide +kernel

/-- An on-hook line out of its bursts, and one inside a burst; a revert whose caller has hung up, and one whose hang-up
waits; no job, a revert's job, another plane's. -/
theorem witness_CancelsEndTheWork :
    let cut := (withJob ringingJob).modLine 3 fun x => { x with drive := some ⟨.f1, .loop⟩ }
    let w := withRevert demoRevert reservedJob
    let hung := w.makeFinding 3 .onHook
    (Ready (withJob demoJob) .a ∧ (withJob demoJob).inService .a = true ∧ (3 : Fin 32).val = (3 : Byte).toNat ∧
      (withJob demoJob).job? 3 = some demoJob ∧ demoJob.turn = none ∧ demoJob.owner = .a ∧
      supervisionMet (withJob demoJob) 3 = .onHook ∧ ((withJob demoJob).line 3).drive = none ∧
      ((withJob demoJob).line 3).scan.view = .clear) ∧
    (cut.job? 3 = some ringingJob ∧ (cut.line 3).drive ≠ none ∧ Ready cut .a) ∧
    (Ready w .a ∧ w.inService .a = true ∧ w.revert? 3 = some demoRevert ∧ w.job? 3 = some reservedJob ∧
      demoRevert.owner = .a ∧ Port.a ≠ .m ∧ supervisionMet w 3 = .onHook) ∧
    (Ready hung .a ∧ hung.inService .a = true ∧ hung.revert? 3 = some demoRevert ∧ supervisionMet hung 3 = .opening) ∧
    32 ≤ (32 : Byte).toNat ∧ shelf.job? 3 = none ∧ shelf.revert? 3 = none ∧ reservedJob.turn ≠ none ∧
    (Ready w .b ∧ w.inService .b = true ∧ demoJob.owner ≠ .b ∧ demoRevert.owner ≠ .b) := by
  unfold Ready; decide +kernel

theorem witness_SetPolicyStoresThePolicy :
    Ready shelf .m ∧ 2 ≤ (2 : Byte).toNat ∧ (1 : Byte).toNat ≤ 1 ∧ (0 : Byte).toNat ≤ 1 ∧ Ready saving .m ∧
    saving.save.isSome = true ∧ shelf.save = none ∧
    (∃ j ∈ (withJob ringingJob).jobs, j.state ≠ .waiting ∧
      ∀ k ∈ (withJob ringingJob).jobs, k.line = j.line → k = j) := by
  unfold Ready; decide +kernel

/-- A line that a TAKEOVER moved away, with a REVERT that passes the first four checks and one that fails the fourth. -/
theorem witness_RevertReservesAJob_movedAway :
    Port.a ≠ .m ∧ Ready movedShelf .a ∧ movedShelf.inService .a = false ∧ (3 : Fin 32).val = (3 : Byte).toNat ∧
    MovedAway movedShelf .a 3 ∧ (movedShelf.line 3).desc.admin = .enabled ∧
    (1 : Byte).toNat < (movedShelf.line 3).desc.count ∧ ¬(2 : Byte).toNat < (movedShelf.line 3).desc.count := by
  refine ⟨by decide, by unfold Ready; decide +kernel, by decide +kernel, by decide,
    ⟨⟨⟨.a, [3]⟩, by decide +kernel, rfl, by decide⟩, .b, by decide +kernel, by decide, by decide⟩, by decide +kernel,
    by decide +kernel, by decide +kernel⟩

/-- Caller off-hook in a flash, or with its hang-up waiting; and a state for each refusal. -/
theorem witness_RevertReservesAJob :
    let s := shelfLine fun x => { x with supervision := .opening, owner := some .b }
    let hung := (shelfLine fun x => { x with owner := some .b }).makeFinding 3 .onHook
    Ready s .b ∧ s.inService .b = true ∧ (3 : Fin 32).val = (3 : Byte).toNat ∧ (0 : Fin 8).val = (0 : Byte).toNat ∧
    (1 : Fin 8).val = (1 : Byte).toNat ∧ (1 : Byte).toNat ≤ 1 ∧ (s.line 3).desc.admin = .enabled ∧
    (0 : Fin 8).val < (s.line 3).desc.count ∧ (1 : Fin 8).val < (s.line 3).desc.count ∧
    (0 : Fin 192).val = (s.line 3).desc.base.val + (0 : Fin 8).val ∧
    (1 : Fin 192).val = (s.line 3).desc.base.val + (1 : Fin 8).val ∧ (s.line 3).owner = some .b ∧
    s.hasJob 3 = false ∧ s.hasRevert 3 = false ∧ MetOffHook s 3 ∧ (Ready hung .b ∧ MetOffHook hung 3) ∧
    (s.station 0).enabled = true ∧ (s.station 1).enabled = true ∧ s.reverts.length < 8 ∧ s.jobs.length < 24 ∧
    32 ≤ (32 : Byte).toNat ∧ 8 ≤ (8 : Byte).toNat ∧ 2 ≤ (2 : Byte).toNat ∧ (shelf.line 4).desc.admin = .disabled ∧
    (faultedShelf.line 3).desc.admin = .faulted ∧ (shelf.line 3).desc.count ≤ (2 : Fin 8).val ∧
    (Port.b ≠ .a ∧ Ready s .a ∧ Port.a ≠ .m) ∧ (shelf.line 3).owner = none ∧ (withJob demoJob).hasJob 3 = true ∧
    supervisionMet shelf 3 = .onHook ∧ supervisionMet (shelfLine fun x => { x with supervision := .closing }) 3 = .closing ∧
    (emptyStation.station 1).enabled = false ∧ 24 ≤ fullPool.jobs.length ∧
    8 ≤ (List.replicate 8 { demoRevert with line := 4 }).length := by
  unfold Ready MetOffHook; decide +kernel

theorem witness_FetchTakesTheOldestFour :
    Ready shelf .m ∧ shelf.inService .m = true ∧
    (shelf.lineEvent .lineOnHook 31 0).serial = none ∧ (shelf.serialEvent .origination 31).party = none ∧
    (shelf.partyEvent .ringEnded 31 7 4).party = some 7 ∧ (shelf.plainEvent .start 0).line = none := by
  unfold Ready; decide +kernel

/-- The highest line and feed, the first bytes past them, and a port out of service. -/
theorem witness_StatusQueriesReport :
    Ready { shelf with serviceA := .outOfService } .a ∧ 32 ≤ (32 : Byte).toNat ∧ 5 ≤ (5 : Byte).toNat ∧
    (31 : Fin 32).val = (31 : Byte).toNat ∧ feedCode .fb = 4 := by
  unfold Ready; decide +kernel

theorem witness_ReadsReturnTheRecord :
    Ready shelf .m ∧ shelf.inService .m = true ∧ 32 ≤ (32 : Byte).toNat ∧ 16 ≤ (16 : Byte).toNat ∧
    5 ≤ (5 : Byte).toNat ∧ (3 : Fin 32).val = (3 : Byte).toNat ∧ (shelf.line 3).desc.count ≤ (2 : Byte).toNat ∧
    8 ≤ (8 : Byte).toNat ∧ (1 : Byte).toNat < (shelf.line 3).desc.count ∧
    (1 : Fin 192).val = (shelf.line 3).desc.base.val + (1 : Byte).toNat ∧ (15 : Fin 16).val = (15 : Byte).toNat ∧
    feedCode .fb = 4 := by
  unfold Ready; decide +kernel

/-- Port A writes line 3 of the shelf afresh; the range may end at the last station. An origination stands or not; and a
state for each refusal. -/
theorem witness_WriteLineReplacesTheDescriptor :
    let d : Descriptor :=
      { admin := .disabled, base := 184, count := 8, allowance := 30, frameLimit := 60, guarded := false }
    let e : Descriptor := { d with admin := .enabled }
    let kept := shelfLine fun x => { x with desc := { x.desc with guarded := true } }
    (Ready shelf .a ∧ shelf.inService .a = true ∧ (3 : Fin 32).val = (3 : Byte).toNat ∧ d.base.val = (184 : Byte).toNat ∧
    d.count = (8 : Byte).toNat ∧ (8 : Byte).toNat ≤ 8 ∧ d.allowance = (30 : Byte).toNat ∧ (255 : Byte).toNat ≠ 0 ∧
    d.frameLimit = min (255 : Byte).toNat 60 ∧ (0 : Byte).toNat ≤ 1 ∧ d.guarded = ((0 : Byte) == 1) ∧
    (shelf.line 3).desc.guarded = false ∧ (shelf.line 3).desc.admin ≠ .faulted ∧ shelf.save = none ∧
    (shelf.line 3).owner = none ∧ shelf.hasJob 3 = false ∧ shelf.hasRevert 3 = false ∧
    d.base.val + d.count ≤ 192 ∧ (e.admin = .enabled → e.count ≠ 0) ∧
    (∀ k, k ≠ 3 → rangesOverlap d (shelf.line k).desc = false) ∧
    (∀ k, k ≠ 4 → rangesOverlap e (shelf.line k).desc = false) ∧ (shelf.line 4).desc.admin = .disabled) ∧
    OriginationStands (shelfLine fun x => { x with supervision := .offHook }) 3 ∧ ¬OriginationStands shelf 3 ∧
    (32 ≤ (32 : Byte).toNat ∧ 192 ≤ (192 : Byte).toNat ∧ 8 < (9 : Byte).toNat ∧ 30 < (31 : Byte).toNat) ∧
    (kept.line 3).desc.guarded = true ∧ saving.save ≠ none ∧ (faultedShelf.line 3).desc.admin = .faulted ∧
    (withJob demoJob).hasJob 3 = true ∧ 192 < (185 : Byte).toNat + (8 : Byte).toNat ∧
    ∃ k : Fin 32, k ≠ 4 ∧ 0 < (1 : Byte).toNat ∧ 0 < (shelf.line k).desc.count ∧
      (1 : Byte).toNat < (shelf.line k).desc.base.val + (shelf.line k).desc.count ∧
      (shelf.line k).desc.base.val < (1 : Byte).toNat + (1 : Byte).toNat := by
  unfold Ready OriginationStands MetOffHook OffHookWaits
  exact ⟨by decide +kernel, by decide +kernel⟩

/-- A field out of range; a party without a station; a protected station; a SAVE in flight; a ringing party; a write. -/
theorem witness_WriteStationChecksAndStores :
    let guarded := shelf.setStation 1 { demoStation with guarded := true }
    Ready shelf .a ∧ shelf.inService .a = true ∧ ¬ (32 : Byte).toNat ≤ 31 ∧ ¬ (4 : Byte).toNat ≤ 3 ∧
    (3 : Fin 32).val = (3 : Byte).toNat ∧ (shelf.line 3).desc.count ≤ (2 : Byte).toNat ∧
    (1 : Fin 8).val = (1 : Byte).toNat ∧ (1 : Fin 8).val < (shelf.line 3).desc.count ∧
    (1 : Fin 192).val = (shelf.line 3).desc.base.val + (1 : Fin 8).val ∧ Ready guarded .a ∧
    (guarded.station 1).guarded = true ∧ Ready saving .a ∧ saving.save.isSome = true ∧
    (saving.station 1).guarded = false ∧ Ready (withJob demoJob) .a ∧
    (∃ j, (withJob demoJob).job? 3 = some j ∧ j.station = some 0) ∧ shelf.save = none ∧ shelf.job? 3 = none ∧
    shelf.revert? 3 = none := by
  unfold Ready
  refine ⟨?_, ?_, ?_, ?_, ?_, ?_, ?_, ?_, ?_, ?_, ?_, ?_, ?_, ?_, ?_, ⟨demoJob, ?_, ?_⟩, ?_, ?_, ?_⟩ <;> decide +kernel

/-- Bursts of 2 and 20 and gaps of 58; pattern 16; sums of 60 and 61, and 30 and 31 on; a pattern that a job holds, one
that a revert's called station names, and one in no use. -/
theorem witness_WritePatternChecksAndStores :
    let r := withRevert demoRevert reservedJob
    Ready shelf .m ∧ ¬ (16 : Byte).toNat ≤ 15 ∧ ¬ (5 : Byte).toNat ≤ 4 ∧ (15 : Fin 16).val = (15 : Byte).toNat ∧
    (1 ≤ (1 : Byte).toNat ∧ 2 ≤ (2 : Byte).toNat ∧ (20 : Byte).toNat ≤ 20 ∧ (58 : Byte).toNat ≤ 58) ∧
    saving.save.isSome = true ∧ Ready saving .m ∧ shelf.save = none ∧
    (∃ j ∈ (withJob demoJob).jobs, j.pattern = some 0) ∧
    (∃ x ∈ r.reverts, ∃ (y : Fin 8) (i : Fin 192), (y = x.caller ∨ y = x.called) ∧ y.val < (r.line x.line).desc.count ∧
      i.val = (r.line x.line).desc.base.val + y.val ∧ (r.station i).pattern = 0) ∧
    (shelf.jobs = [] ∧ shelf.reverts = []) ∧ 60 < [20 + 40, 1].sum ∧ 30 < [20, 11].sum ∧ [20, 10].sum ≤ 30 := by
  unfold Ready
  refine ⟨?_, ?_, ?_, ?_, ?_, ?_, ?_, ?_, ?_, ⟨demoRevert, ?_, 1, 1, ?_⟩, ?_, ?_, ?_, ?_⟩ <;> decide +kernel

/-- FB with fallback; a frequency changed under a job; fallback withdrawn under a job on FB; FB at its top and above. An
overloaded feed with its victim, a feed with room, and a job to shed from F1 and from FB. -/
theorem witness_WriteFeedChecksAndStores :
    let onFb := withJob { demoJob with current := some .fb }
    Ready shelf .m ∧ feedCode .fb = 4 ∧ ¬ (5 : Byte).toNat ≤ 4 ∧ (5 : Byte).toNat ≤ 5 ∧ Ready saving .m ∧
    saving.save.isSome = true ∧ shelf.save = none ∧ Ready (withJob demoJob) .m ∧
    ((0 : Byte).toNat ≠ ((withJob demoJob).feed .f1).freq ∧ ∃ j ∈ (withJob demoJob).jobs, j.current = some .f1) ∧
    ((onFb.feed .f1).fallback = true ∧ ∃ j ∈ onFb.jobs, j.home = some .f1 ∧ j.current = some .fb) ∧
    ((2 : Byte).toNat ≠ (shelf.feed .fb).freq ∧ ¬ ∃ j ∈ shelf.jobs, j.current = some .fb) ∧
    (strained.jobs = [ringingJob] ++ strainedJob :: [] ∧ strainedJob.cls.val ≤ ringingJob.cls.val ∧
      (strained.feed .f1).capacity * 100 / 100 < strained.profile .f1 10 ∧ strainedJob.state = .ringing ∧
      strainedJob.current = some .f1 ∧ strainedJob.pattern = some 0 ∧ strainedJob.phase = some 2 ∧
      0 ∈ onSet (strained.pattern 0) ∧ 10 = (0 + 5 * (2 : Fin 12).val) % 60) ∧
    (∀ t : Fin 60, ¬(shelf.feed .f1).capacity * 100 / 100 < shelf.profile .f1 t.val) ∧
    ((withJob ringingJob).job? 3 = some ringingJob ∧ ringingJob.current ≠ some .fb) ∧
    (∃ j, onFb.job? 3 = some j ∧ j.current = some .fb ∧ j.home = some .f1) ∧ (onFb.feed .f1).state = .good := by
  unfold Ready
  refine ⟨?_, ?_, ?_, ?_, ?_, ?_, ?_, ?_, ?_, ?_, ?_, ?_, ?_, ?_, ⟨{ demoJob with current := some .fb }, ?_⟩, ?_⟩ <;>
    decide +kernel

/-- Line 32, a FAULTED line bound to Port A with a job, an origination that stands, an idle line and a DISABLED one. -/
theorem witness_ResetLineCleansTheLine :
    let s := (withJob demoJob).modLine 3 fun x => { x with desc := { x.desc with admin := .faulted } }
    let raised := shelfLine fun x => { x with supervision := .offHook }
    Ready s .m ∧ 32 ≤ (32 : Byte).toNat ∧ (3 : Fin 32).val = (3 : Byte).toNat ∧ s.job? 3 = some demoJob ∧
    (s.line 3).owner = some .a ∧ (s.line 4).desc.admin = .disabled ∧ Ready raised .m ∧ OriginationStands raised 3 ∧
    ¬OriginationStands shelf 3 ∧ shelf.job? 3 = none ∧ shelf.revert? 3 = none := by
  unfold Ready OriginationStands MetOffHook OffHookWaits; decide +kernel

theorem witness_SaveAndResetAreAccepted :
    Ready shelf .m ∧ shelf.save = none ∧ Ready saving .m ∧ saving.save.isSome = true := by
  unfold Ready; decide +kernel

theorem witness_ClearsAndForcedLoss :
    Ready shelf .m ∧ 5 ≤ (5 : Byte).toNat ∧ 2 ≤ (2 : Byte).toNat ∧ feedCode .fb = 4 ∧ (1 : Byte).toNat ≤ 1 := by
  unfold Ready; decide +kernel

/-! Jobs and timers. -/

theorem revertsNameStations_demo : RevertsNameStations (withRevert demoRevert reservedJob) := by
  intro r hr
  rw [show r = demoRevert from List.mem_singleton.mp hr]
  decide +kernel

theorem jobShape_waiting : JobShape demoJob := by simp [JobShape, demoJob, Job.placed]

theorem jobShape_ringing : JobShape ringingJob := by simp [JobShape, ringingJob, demoJob, Job.placed]

theorem jobShape_placed : JobShape placedJob := by simp [JobShape, placedJob, demoJob, Job.placed]

theorem jobShape_reserved : JobShape reservedJob := by simp [JobShape, reservedJob, demoJob]

theorem jobsShaped_withJob {j : Job} (h : JobShape j) : JobsShaped (withJob j) := by
  intro k hk
  have : (withJob j).jobs = [j] := rfl
  rw [this, List.mem_singleton] at hk
  exact hk ▸ h

theorem poolBounded_withJob (j : Job) : PoolBounded (withJob j) := by
  have : (withJob j).jobs = [j] := rfl
  simp [PoolBounded, this]

/-- A WAITING job is raised, a RINGING and a RESERVED one are not; line 32, no job, another plane's job. -/
theorem witness_PromoteRaisesTheClass :
    (∀ j, PoolBounded (withJob j)) ∧
    Ready (withJob demoJob) .a ∧ (withJob demoJob).inService .a = true ∧ (withJob demoJob).job? 3 = some demoJob ∧
    demoJob.owner = .a ∧ Port.a ≠ .m ∧ Ready (withJob ringingJob) .a ∧
    (withJob ringingJob).job? 3 = some ringingJob ∧ ringingJob.state = .ringing ∧
    (withRevert demoRevert reservedJob).job? 3 = some reservedJob ∧
    PoolBounded (withRevert demoRevert reservedJob) ∧
    32 ≤ (32 : Byte).toNat ∧ shelf.job? 3 = none ∧ (Ready (withJob demoJob) .b ∧ demoJob.owner ≠ .b) := by
  refine ⟨poolBounded_withJob, ?_⟩
  have h : PoolBounded (withRevert demoRevert reservedJob) := poolBounded_withJob reservedJob
  simp only [h, true_and]
  unfold Ready; decide +kernel

/-- A job at its boundary, whose first burst starts on F1; one a tick later; a frozen feed. A job between frame ends, two
whose wait timers run, and a revert whose hang-up timer runs. -/
theorem witness_ExpiryFollowsTheOnSets :
    let s := { withJob placedJob with pos := 9 }
    let t := after .cadenceTick s
    let starts (l : Fin 32) (y : Fin 8) (f : Feed) : Prop :=
      (s.line l).drive = none ∧ (∃ d, (t.line l).drive = some d ∧ d.feed = f) ∧ ∃ j, t.job? l = some j ∧ j.party = y
    let place (l : Fin 32) : Nat := s.jobs.findIdx fun j => j.line == l
    let w := withRevert demoRevert reservedJob
    let idle := { demoJob with state := .suspended, current := none }
    (s.phase = .run ∧ PoolBounded s ∧ JobsShaped s ∧ RevertsNameStations s ∧ s.job? 3 = some placedJob ∧
      placedJob.state = .placed ∧ placedJob.phase = some 2 ∧ t.pos.val = 5 * (2 : Fin 12).val) ∧
    ((s.feed .f1).frozen = false ∧ starts 3 0 .f1 ∧ ∀ k z, starts k z .f1 → place k ≤ place 3) ∧
    (∃ j, t.job? 3 = some j ∧ j.state = .ringing ∧ j.pattern = some 0 ∧ j.phase = some 2) ∧
    (after .cadenceTick { s with pos := 10 }).pos.val ≠ 5 * (2 : Fin 12).val ∧
    ((s.modFeed .f1 fun x => { x with frozen := true }).feed .f1).frozen = true ∧
    (JobsShaped (withJob ringingJob) ∧ (withJob ringingJob).job? 3 = some ringingJob ∧ ringingJob.state = .ringing ∧
      (after .cadenceTick (withJob ringingJob)).pos.val ≠ 5 * (2 : Fin 12).val) ∧
    ((withJob demoJob).job? 3 = some demoJob ∧ demoJob.state = .waiting ∧ demoJob.waitTimer ≠ 299) ∧
    (JobsShaped (withJob idle) ∧ (withJob idle).job? 3 = some idle ∧ idle.state = .suspended ∧ idle.waitTimer ≠ 299) ∧
    JobsShaped w ∧ RevertsNameStations w ∧ w.job? 3 = some reservedJob ∧ reservedJob.state = .reserved ∧
    w.revert? 3 = some demoRevert ∧ demoRevert.state = .awaitHangup ∧ demoRevert.hangupTimer ≠ 299 := by
  intro s t starts place w idle
  have only : ∀ k : Fin 32, k ≠ 3 → ((after .cadenceTick { withJob placedJob with pos := 9 }).line k).drive = none := by
    decide +kernel
  refine ⟨⟨rfl, poolBounded_withJob _, jobsShaped_withJob jobShape_placed, ?_, rfl, rfl, rfl, by decide +kernel⟩,
    ⟨by decide +kernel, ⟨by decide +kernel, ⟨⟨.f1, .loop⟩, by decide +kernel, rfl⟩, ⟨_, rfl, rfl⟩⟩, ?_⟩, ?_,
    by decide +kernel, by decide +kernel,
    ⟨jobsShaped_withJob jobShape_ringing, rfl, rfl, by decide +kernel⟩, ⟨rfl, rfl, by decide⟩,
    ⟨jobsShaped_withJob (by simp [idle, JobShape, demoJob, Job.placed]), rfl, rfl, by decide⟩,
    jobsShaped_withJob jobShape_reserved, revertsNameStations_demo, rfl, rfl, rfl, rfl, by decide⟩
  · intro r hr; exact absurd (show r ∈ ([] : List Revert) from hr) (by simp)
  · rintro k z ⟨-, ⟨d, hd, -⟩, -⟩
    by_cases h : k = 3
    · rw [h]
    · exact absurd ((only k h).symm.trans hd) (by simp)
  · exact ⟨{ placedJob with state := .ringing }, by decide +kernel, rfl, rfl, rfl⟩

/-- The last frame of a line met on-hook, and of one whose answer waits. -/
theorem witness_LastFrameEndsNoAnswer :
    let j := { ringingJob with framesRung := 2 }
    let s := { withJob j with pos := 9 }
    s.phase = .run ∧ PoolBounded s ∧ s.job? 3 = some j ∧ j.state = .ringing ∧ j.phase = some 2 ∧
    (s.pos.val + 1) % 60 = 5 * (2 : Fin 12).val ∧ j.framesRung + 1 = j.frameLimit ∧ (s.line 3).owner = some .a ∧
    supervisionMet s 3 = .onHook ∧ supervisionMet (s.makeFinding 3 .trip) 3 = .offHook :=
  ⟨rfl, poolBounded_withJob _, rfl, rfl, rfl, rfl, rfl, rfl, by decide +kernel, by decide +kernel⟩

/-- A waiting job and a suspended one at 299, met on-hook and with an answer waiting; a hang-up timer at 299. -/
theorem witness_TimersEndAtThreeHundred :
    let j := { demoJob with waitTimer := 299 }
    let k := { j with state := .suspended, current := none }
    let r := { demoRevert with hangupTimer := 299 }
    ((withJob j).phase = .run ∧ PoolBounded (withJob j) ∧ (withJob j).job? 3 = some j ∧ j.state = .waiting ∧
      j.waitTimer = 299 ∧ supervisionMet (withJob j) 3 = .onHook ∧
      supervisionMet ((withJob j).makeFinding 3 .offHook) 3 = .offHook) ∧
    (PoolBounded (withJob k) ∧ (withJob k).job? 3 = some k ∧ k.state = .suspended ∧ k.waitTimer = 299) ∧
    (withRevert r reservedJob).phase = .run ∧ PoolBounded (withRevert r reservedJob) ∧
    (withRevert r reservedJob).job? 3 = some reservedJob ∧ (withRevert r reservedJob).revert? 3 = some r ∧
    reservedJob.state = .reserved ∧ reservedJob.turn.isSome = true ∧ r.state = .awaitHangup ∧ r.hangupTimer = 299 :=
  ⟨⟨rfl, poolBounded_withJob _, rfl, rfl, rfl, by decide +kernel, by decide +kernel⟩,
    ⟨poolBounded_withJob _, rfl, rfl, rfl⟩, rfl, poolBounded_withJob _, rfl, rfl, rfl, rfl, rfl, rfl⟩

/-- A turn from each party; a return from FB and none; a progress notice that is due and one that is not. -/
theorem witness_TurnTakesTheOtherParty :
    let j (u : Turn) := { ringingJob with turn := some u, party := 1 }
    let r (v : RevertState) := { demoRevert with state := v }
    let s (v : RevertState) (u : Turn) := { withRevert (r v) (j u) with pos := 9 }
    let fb := { ringingJob with current := some .fb }
    let due := { ringingJob with progress := true, framesRung := 1 }
    (∀ v u, (s v u).phase = .run ∧ PoolBounded (s v u) ∧ (s v u).job? 3 = some (j u) ∧ (s v u).revert? 3 = some (r v) ∧
      (j u).state = .ringing ∧ (j u).turn = some u ∧ (r v).ringCaller = true ∧ (r v).caller ≠ (r v).called ∧
      (j u).phase = some 2 ∧ ((s v u).pos.val + 1) % 60 = 5 * (2 : Fin 12).val ∧
      (j u).framesRung + 1 ≠ (j u).frameLimit) ∧
    (r .ringingCalled).state ≠ .awaitHangup ∧ (r .ringingCaller).state ≠ .awaitHangup ∧
    ((r .ringingCalled).caller.val < ((s .ringingCalled .called).line 3).desc.count ∧
      (0 : Fin 192).val = ((s .ringingCalled .called).line 3).desc.base.val + demoRevert.caller.val) ∧
    ((r .ringingCaller).called.val < ((s .ringingCaller .caller).line 3).desc.count ∧
      (1 : Fin 192).val = ((s .ringingCaller .caller).line 3).desc.base.val + demoRevert.called.val) ∧
    (PoolBounded (withJob fb) ∧ (withJob fb).job? 3 = some fb ∧ (withJob fb).revert? 3 = none ∧ fb.state = .ringing ∧
      fb.phase = some 2 ∧ fb.framesRung + 1 ≠ fb.frameLimit ∧ fb.current = some .fb ∧ fb.home = some .f1 ∧
      ((withJob fb).feed .f1).state = .good) ∧
    ringingJob.current ≠ some .fb ∧
    (PoolBounded (withJob due) ∧ (withJob due).job? 3 = some due ∧ ((withJob due).line 3).owner = some .a ∧
      due.progress = true ∧ due.framesRung + 1 = (due.frameLimit + 1) / 2) ∧
    ringingJob.progress = false :=
  ⟨fun _ _ => ⟨rfl, poolBounded_withJob _, rfl, rfl, rfl, rfl, rfl,
    show (0 : Fin 8) ≠ 1 by decide, rfl, rfl, show 0 + 1 ≠ 3 by decide⟩, by decide, by decide,
    ⟨by decide +kernel, by decide +kernel⟩, ⟨by decide +kernel, by decide +kernel⟩,
    ⟨poolBounded_withJob _, rfl, rfl, rfl, rfl, by decide, rfl, rfl, by decide +kernel⟩, by decide,
    ⟨poolBounded_withJob _, rfl, by decide +kernel, rfl, by decide⟩, rfl⟩

/-! The scanner. -/

/-- Every line open, its relay following the drive. -/
def openInputs (s : State) : List LineInput := allLines.map fun l => ⟨l, false, false, (s.line l).drive.isSome⟩

/-- A CLEAR line and one at guard sample 9, each failing a closure, without a finding waiting and with one; one not
parked. -/
theorem witness_LoopSamplesFollowTheTables :
    let s := shelfLine fun x => { x with supervision := .closing, parked := true }
    let g := s.modLine 3 fun x => { x with scan := { x.scan with view := .guard, samples := 9 } }
    let i : LineInput := ⟨3, false, false, false⟩
    (Instr.scannerSample (openInputs s)).wf = true ∧ s.phase = .run ∧ i ∈ openInputs s ∧ (s.line 3).drive = none ∧
    (s.line 3).scan.view = .clear ∧ (g.line 3).scan.view = .guard ∧ 9 ≤ (g.line 3).scan.samples ∧
    (g.line 3).drive = none ∧ (s.line 3).supervision = .closing ∧ i.closed = false ∧ (s.line 3).parked = true ∧
    (shelf.line 3).parked = false ∧ findingsOf s 3 = [] ∧
    findingsOf (s.makeFinding 3 .onHook) 3 = [.onHook] := by
  decide +kernel

/-- The failed closure of a parked line whose on-hook finding waits clears parked and leaves no finding; on a line that is
not parked the finding stays (R75, R85, R86). -/
theorem test_failedClosure_parked :
    let s (parked : Bool) :=
      (shelfLine fun x => { x with supervision := .closing, parked := parked }).makeFinding 3 .onHook
    let t (parked : Bool) := after (.scannerSample (openInputs (s parked))) (s parked)
    ((t true).line 3).parked = false ∧ findingsOf (t true) 3 = [] ∧ findingsOf (t false) 3 = [.onHook] := by
  decide +kernel

/-- A line at guard sample 9, which the sample takes to CLEAR; one whose burst starts, one whose burst ends. -/
theorem witness_DriveViewFollowsTheTable :
    let g := shelfLine fun x => { x with scan := { x.scan with view := .guard, samples := 9 } }
    let starts := shelfLine fun x => { x with drive := some ⟨.f1, .loop⟩ }
    let ends := shelfLine fun x => { x with scan := { x.scan with view := .burst, tripRun := 2 } }
    let seen (s : State) := ((after (.scannerSample (openInputs s)) s).line 3).scan
    (Instr.scannerSample (openInputs g)).wf = true ∧ g.phase = .run ∧ (g.line 4).supervision = .unscanned ∧
    (g.line 3).supervision ≠ .unscanned ∧ (g.line 3).scan.view = .guard ∧ (g.line 3).drive = none ∧
    9 ≤ (g.line 3).scan.samples ∧
    ((Instr.scannerSample (openInputs starts)).wf = true ∧ (seen starts).view = .burst ∧
      (starts.line 3).scan.view ≠ .burst) ∧
    (seen ends).view = .guard ∧ (ends.line 3).scan.view = .burst ∧ (seen g).view ≠ .burst := by
  decide +kernel

/-- Burst samples 19 and 20 with the trip run at 0, and at 2. -/
theorem witness_TripNeedsThreeSamples :
    let s (n run : Nat) := shelfLine fun x =>
      { x with drive := some ⟨.f1, .loop⟩, scan := { x.scan with view := .burst, samples := n, tripRun := run } }
    let i : LineInput := ⟨3, false, true, true⟩
    let inputs := (openInputs shelf).map fun x => if x.line = 3 then i else x
    (Instr.scannerSample inputs).wf = true ∧ (s 19 2).phase = .run ∧ i ∈ inputs ∧
    ((s 19 2).line 3).supervision ≠ .unscanned ∧ ((s 19 2).line 3).drive.isSome = true ∧
    ((s 19 2).line 3).scan.view = .burst ∧ ¬ 20 ≤ min (((s 18 0).line 3).scan.samples + 1) 65535 ∧
    20 ≤ min (((s 19 2).line 3).scan.samples + 1) 65535 ∧ ((s 19 0).line 3).scan.tripRun < 2 ∧
    2 ≤ ((s 19 2).line 3).scan.tripRun ∧ ((s 19 2).line 3).supervision ≠ .offHook := by
  decide +kernel

/-- A line without work, with an origination that stands and with none; a line with a job, met on-hook and with an answer
waiting; an empty record and a full one. A sample that matches, one that does not, and a FAULTED line. -/
theorem witness_FifthMismatchIsARelayFault :
    let bad (s : State) := s.modLine 3 fun x => { x with scan := { x.scan with mismatchRun := 4 } }
    let full := (bad shelf).capture .feedFail (some .f1) none
    let busy := bad (withJob ringingJob)
    let raised := bad (shelfLine fun x => { x with supervision := .offHook })
    let stuck := (openInputs shelf).map fun x => { x with operated := true }
    (bad shelf).phase = .run ∧ ((bad shelf).line 3).supervision ≠ .unscanned ∧
    ((bad shelf).line 3).desc.admin = .enabled ∧ true ≠ ((bad shelf).line 3).drive.isSome ∧
    ((bad shelf).line 3).scan.mismatchRun = 4 ∧ (bad shelf).hasJob 3 = false ∧ (bad shelf).hasRevert 3 = false ∧
    (bad shelf).faultRecord = none ∧ full.faultRecord.isSome = true ∧
    busy.job? 3 = some ringingJob ∧ (busy.line 3).owner = some .a ∧ supervisionMet busy 3 = .onHook ∧
    supervisionMet (busy.makeFinding 3 .trip) 3 ≠ .onHook ∧
    OriginationStands raised 3 ∧ raised.hasJob 3 = false ∧ ¬OriginationStands (bad shelf) 3 ∧
    ((Instr.scannerSample stuck).wf = true ∧ ⟨3, false, false, true⟩ ∈ stuck ∧ (shelf.line 3).scan.mismatchRun < 4) ∧
    ((Instr.scannerSample (openInputs shelf)).wf = true ∧ ⟨3, false, false, false⟩ ∈ openInputs shelf ∧
      ¬false ≠ (shelf.line 3).drive.isSome) ∧
    (faultedShelf.line 3).desc.admin ≠ .enabled ∧ (faultedShelf.line 3).supervision ≠ .unscanned := by
  unfold OriginationStands MetOffHook OffHookWaits; decide +kernel

/-- An unbound line, a bound one and a parked one, each with an off-hook and a trip finding. -/
theorem witness_OffHookOfAnIdleLine :
    let s (k : FindingKind) (o : Option Port) (parked : Bool) :=
      (shelfLine fun x => { x with supervision := .offHook, owner := o, parked := parked }).makeFinding 3 k
    (s .offHook none false).nextFinding 3 = some .offHook ∧ (s .trip none false).nextFinding 3 = some .trip ∧
    (s .trip none false).hasJob 3 = false ∧ (s .trip none false).hasRevert 3 = false ∧
    ((s .trip none false).line 3).desc.admin = .enabled ∧ ((s .trip none false).line 3).parked = false ∧
    ((s .offHook (some .b) false).line 3).owner = some .b ∧
    (((s .offHook none true).line 3).owner = none ∧ ((s .offHook none true).line 3).parked = true) := by
  decide +kernel

/-- A revert in AWAIT_HANGUP, a ringing and a waiting ordinary job, and a revert's ringing job. -/
theorem witness_OffHookEndsTheJob :
    let w := (withRevert demoRevert reservedJob).makeFinding 3 .offHook
    let o := (withJob ringingJob).makeFinding 3 .trip
    let r := { demoRevert with state := .ringingCaller }
    let j := { ringingJob with turn := some .caller }
    let v := (withRevert r j).makeFinding 3 .trip
    (w.nextFinding 3 = some .offHook ∧ w.job? 3 = some reservedJob ∧ w.revert? 3 = some demoRevert ∧
      demoRevert.state = .awaitHangup) ∧
    (o.nextFinding 3 = some .trip ∧ o.job? 3 = some ringingJob ∧ o.revert? 3 = none ∧ ringingJob.turn = none ∧
      ringingJob.state ≠ .reserved ∧ (o.line 3).owner = some .a) ∧
    ((withJob demoJob).makeFinding 3 .offHook).job? 3 = some demoJob ∧ demoJob.state = .waiting ∧
    (v.nextFinding 3 = some .trip ∧ v.job? 3 = some j ∧ v.revert? 3 = some r ∧ r.state ≠ .awaitHangup ∧
      j.turn.isSome = true) := by
  decide +kernel

/-- A bound line, an offered one and a parked one going on-hook; a flash on a bound line and on a reverting one. -/
theorem witness_OnHookAndFlashReachTheOwner :
    let bound := (shelfLine fun x => { x with owner := some .b }).makeFinding 3 .onHook
    let offered := shelf.makeFinding 3 .onHook
    let parked := (shelfLine fun x => { x with parked := true }).makeFinding 3 .onHook
    let flash := (shelfLine fun x => { x with owner := some .b }).makeFinding 3 (.flash 8)
    let busy := (withRevert demoRevert reservedJob).makeFinding 3 (.flash 69)
    (bound.nextFinding 3 = some .onHook ∧ bound.hasRevert 3 = false ∧ (bound.line 3).owner = some .b) ∧
    (offered.nextFinding 3 = some .onHook ∧ (offered.line 3).owner = none ∧ (offered.line 3).desc.admin = .enabled ∧
      (offered.line 3).parked = false ∧ offered.hasJob 3 = false) ∧
    (parked.nextFinding 3 = some .onHook ∧ (parked.line 3).owner = none ∧ (parked.line 3).parked = true) ∧
    (flash.nextFinding 3 = some (.flash 8) ∧ flash.hasRevert 3 = false ∧ (flash.line 3).owner = some .b) ∧
    busy.nextFinding 3 = some (.flash 69) ∧ busy.hasRevert 3 = true := by
  decide +kernel

/-- The called party's home feed GOOD; FAILED with FB to fall back to; FAILED with FB too. -/
theorem witness_HangUpStartsTheRevert :
    let s := (withRevert demoRevert reservedJob).makeFinding 3 .onHook
    let down (s : State) (f : Feed) := s.modFeed f fun x => { x with state := .failed }
    s.nextFinding 3 = some .onHook ∧ s.revert? 3 = some demoRevert ∧ demoRevert.state = .awaitHangup ∧
    s.job? 3 = some reservedJob ∧ (s.line 3).owner = some .a ∧ demoRevert.called.val < (s.line 3).desc.count ∧
    (1 : Fin 192).val = (s.line 3).desc.base.val + demoRevert.called.val ∧
    (s.feed (s.station 1).home).state = .good ∧
    (((down s .f1).feed (s.station 1).home).state ≠ .good ∧ (s.station 1).selective = false ∧
      ((down s .f1).feed (s.station 1).home).fallback = true ∧ ((down s .f1).feed .fb).state = .good) ∧
    ((down (down s .f1) .fb).feed .fb).state ≠ .good := by
  decide +kernel

/-! Feeds, battery, reference. -/

/-- All six rows, at the runs 28 and 29, 498 and 499. -/
theorem witness_FeedSamplesFollowTheTable :
    let inputs (p : Bool) : List FeedInput := allFeeds.map fun f => ⟨f, p⟩
    let good (n : Nat) := shelf.modFeed .fb fun x => { x with absentRun := n }
    let failed (n : Nat) := shelf.modFeed .fb fun x => { x with state := .failed, presentRun := n }
    (Instr.feedSample (inputs true)).wf = true ∧ (Instr.feedSample (inputs false)).wf = true ∧ shelf.phase = .run ∧
    ⟨.fb, true⟩ ∈ inputs true ∧ ⟨.fb, false⟩ ∈ inputs false ∧ (shelf.feed .fb).forcedLoss = false ∧
    (((good 28).feed .fb).state = .good ∧ ((good 28).feed .fb).absentRun < 29) ∧
    29 ≤ ((good 29).feed .fb).absentRun ∧
    (((failed 498).feed .fb).state = .failed ∧ ((failed 498).feed .fb).presentRun < 499) ∧
    499 ≤ ((failed 499).feed .fb).presentRun := by
  decide +kernel

/-- F1 fails under its own job, which FB may take or, without fallback, nothing may; FB fails under a job whose home feed
is GOOD. -/
theorem witness_FailureClearsTheFeed :
    let last (s : State) (f : Feed) := s.modFeed f fun x => { x with absentRun := 29 }
    let s := last (withJob ringingJob) .f1
    let alone := s.modFeed .f1 fun x => { x with fallback := false }
    let onFb := { ringingJob with current := some .fb }
    let b := last (withJob onFb) .fb
    (s.phase = .run ∧ PoolBounded s ∧ JobsShaped s ∧ (s.feed .f1).state = .good ∧ (s.feed .f1).absentRun = 29) ∧
    (s.job? 3 = some ringingJob ∧ ringingJob.current = some .f1 ∧ ringingJob.home = some .f1 ∧
      ringingJob.station = some 0 ∧ (s.station 0).selective = false ∧ (s.feed .f1).fallback = true ∧
      (s.feed .fb).state = .good) ∧
    (PoolBounded alone ∧ JobsShaped alone ∧ (alone.feed .f1).state = .good ∧ (alone.feed .f1).absentRun = 29 ∧
      (alone.feed .f1).fallback = false) ∧
    PoolBounded b ∧ JobsShaped b ∧ (b.feed .fb).state = .good ∧ (b.feed .fb).absentRun = 29 ∧ b.job? 3 = some onFb ∧
    onFb.home = some .f1 ∧ (b.feed .f1).state = .good :=
  ⟨⟨rfl, poolBounded_withJob _, jobsShaped_withJob jobShape_ringing, by decide +kernel, by decide +kernel⟩,
    ⟨rfl, rfl, rfl, rfl, by decide +kernel, by decide +kernel, by decide +kernel⟩,
    ⟨poolBounded_withJob _, jobsShaped_withJob jobShape_ringing, by decide +kernel, by decide +kernel, by decide +kernel⟩,
    poolBounded_withJob _, jobsShaped_withJob (by simp [JobShape, ringingJob, demoJob, Job.placed]), by decide +kernel,
    by decide +kernel, rfl, rfl, by decide +kernel⟩

/-- A generator and FB; a job of the generator SUSPENDED, one WAITING on FB and one PLACED there. -/
theorem witness_RecoverySendsJobsHome :
    let down (j : Job) (f : Feed) := (withJob j).modFeed f fun x => { x with state := .failed, presentRun := 499 }
    let s := down demoJob
    let idle := { demoJob with state := .suspended, current := none }
    let waits := { demoJob with current := some .fb }
    let placed := { placedJob with current := some .fb }
    (∀ f, (s f).phase = .run ∧ PoolBounded (s f) ∧ JobsShaped (s f)) ∧ Feed.f1 ≠ .fb ∧
    (((s .f1).feed .f1).state = .failed ∧ ((s .f1).feed .f1).forcedLoss = false ∧
      ((s .f1).feed .f1).presentRun = 499) ∧
    (((s .fb).feed .fb).state = .failed ∧ ((s .fb).feed .fb).forcedLoss = false ∧
      ((s .fb).feed .fb).presentRun = 499) ∧
    (JobsShaped (down idle .f1) ∧ (down idle .f1).job? 3 = some idle ∧ idle.home = some .f1 ∧ idle.state = .suspended) ∧
    (JobsShaped (down waits .f1) ∧ (down waits .f1).job? 3 = some waits ∧ waits.current = some .fb ∧
      waits.state = .waiting) ∧
    JobsShaped (down placed .f1) ∧ (down placed .f1).job? 3 = some placed ∧ placed.current = some .fb ∧
    placed.state = .placed :=
  ⟨fun _ => ⟨rfl, poolBounded_withJob _, jobsShaped_withJob jobShape_waiting⟩, by decide, by decide +kernel,
    by decide +kernel, ⟨jobsShaped_withJob (by simp [JobShape, demoJob, Job.placed]), rfl, rfl, rfl⟩,
    ⟨jobsShaped_withJob (by simp [JobShape, demoJob, Job.placed]), rfl, rfl, rfl⟩,
    jobsShaped_withJob (by simp [JobShape, placedJob, demoJob, Job.placed]), rfl, rfl, rfl⟩

/-- A reading on each edge of the table at NORMAL, and one above 800; a run begun, at 3, and broken. -/
theorem witness_FilterNeedsFourReadings :
    shelf.phase = .run ∧
    ((shelf.battery.level, 0, 419, Level.critical, RunDirection.fall) ∈ thresholds ∧ min 419 800 ≤ 419) ∧
    ((shelf.battery.level, 420, 439, Level.low, RunDirection.fall) ∈ thresholds ∧ 420 ≤ min 420 800 ∧ min 439 800 ≤ 439) ∧
    ((shelf.battery.level, 440, 800, Level.normal, RunDirection.none) ∈ thresholds ∧ 440 ≤ min 440 800 ∧
      min 900 800 ≤ 800) ∧
    RunDirection.fall ≠ shelf.battery.direction ∧
    ∃ s : State, s.battery.direction = .fall ∧ s.battery.count = 3 ∧ s.battery.level = .normal :=
  ⟨rfl, by decide +kernel, by decide +kernel, by decide +kernel, by decide +kernel,
    { shelf with battery := { level := .normal, direction := .fall, count := 3, reach := some .low } }, rfl, rfl, rfl⟩

/-- The fourth falling reading, with reach LOW and with reach CRITICAL, from LOW and from NORMAL; the third rising one. -/
theorem witness_LevelChangeIsScheduledAndReported :
    let s (old : Level) (d : RunDirection) (r : Level) :=
      { withJob ringingJob with battery := { level := old, direction := d, count := 3, reach := some r } }
    (∀ old d r, (s old d r).phase = .run ∧ PoolBounded (s old d r) ∧ (s old d r).battery.level = old ∧
      (s old d r).battery.direction = d ∧ (s old d r).battery.count = 3) ∧
    (Level.low, 0, 419, Level.critical, RunDirection.fall) ∈ thresholds ∧ 0 ≤ min 419 800 ∧ min 419 800 ≤ 419 ∧
    (Level.normal, 420, 439, Level.low, RunDirection.fall) ∈ thresholds ∧ 420 ≤ min 420 800 ∧ min 420 800 ≤ 439 ∧
    (Level.low, 460, 800, Level.normal, RunDirection.rise) ∈ thresholds ∧ 460 ≤ min 801 800 ∧ min 801 800 ≤ 800 :=
  ⟨fun _ _ _ => ⟨rfl, poolBounded_withJob _, rfl, rfl, rfl⟩, by decide, by decide, by decide, by decide, by decide,
    by decide, by decide, by decide, by decide⟩

/-- Gaps of 999, 1000, 250 and 251 microseconds; a run that reaches 100 ms exactly and one short of it. -/
theorem witness_ReferenceIsLostAndRestored :
    let s (n : Nat) (o : Bool) :=
      { shelf with reference := { state := .lost, restoreRun := n, runOpen := o } }
    shelf.phase = .run ∧ shelf.reference.state = .present ∧ (999 : Nat) < 1000 ∧ 1000 ≤ (1000 : Nat) ∧
    (s 0 false).phase = .run ∧
    (s 0 false).reference.state = .lost ∧ (s 0 false).reference.runOpen = false ∧ (250 : Nat) < 251 ∧
    (s 99749 true).reference.runOpen = true ∧ (s 99749 true).reference.restoreRun + 250 < 100000 ∧
    100000 ≤ (s 99750 true).reference.restoreRun + 250 := by
  decide +kernel

/-! Resets, start-up, SAVE. -/

/-- Without a SAVE in flight and with one, and with a commanded reset due. -/
theorem witness_ResetsEnterHold :
    shelf.save = none ∧ (∃ v, (after (.save .m 1) shelf).save = some v) ∧
    (after (.responseSent .m) (after (.reset .m 1) shelf)).resetStage = .due := by
  refine ⟨rfl, ⟨{ contents := shelf.imageBytes, before := [] }, rfl⟩, ?_⟩
  decide +kernel

/-- A blank memory, and one that answers nothing at byte 1132; an EMPTY record and a FULL one. -/
theorem witness_LoadOfAnInvalidImage :
    State.reset.phase = .hold ∧ Memory.read State.reset.image 0 ≠ 0x5A ∧ (∃ a ∈ [1132], a < 1133 ∧ a ≠ 3) ∧
    State.reset.faultRecord = none ∧ (State.reset.capture .saveFailed none none).faultRecord.isSome = true ∧
    (State.reset.capture .saveFailed none none).phase = .hold := by
  decide +kernel

/-- The memory that holds what a SAVE of a state writes. -/
@[irreducible] def savedImage (s : State) : Memory := Memory.writeAll [] ((List.range 1133).map fun a => (a, s.imageBytes.getD a 0))

theorem read_savedImage (s : State) {a : Nat} (h : a < 1133) :
    Memory.read (savedImage s) a = s.imageBytes.getD a 0 := by
  unfold savedImage
  rw [Memory.read_writeAll_run, if_pos h]

theorem recordsInRange_shelf : RecordsInRange shelf := by
  refine ⟨by decide +kernel, by decide +kernel, by decide +kernel, fun f => ?_⟩
  cases f <;> decide +kernel

theorem rangesDisjoint_shelf : RangesDisjoint shelf := by unfold RangesDisjoint; decide +kernel

/-- A valid image by R189 that no SAVE wrote: line 0 over its frame limit, line 1 on line 0's stations, station 0 over its
load, a pattern, F1 and FB over their capacities, and the second policy; every other record is zeros. -/
def foreignImage (flags : Byte) : Memory :=
  Memory.writeAll []
    ((([0x5A, 0x3C, 1, flags, 0x04, 0x6D, 0x02, 0x29] ++ [1, 0, 2, 30, 61, 0] ++ [1, 1, 1, 0, 1, 0] : List Byte).mapIdx
        fun a v => (a, v)) ++
      [(200, 3), (201, 0x13), (202, 15), (203, 51), (968, 1), (969, 20), (970, 40), (1112, 6), (1113, 2), (1114, 0x59),
        (1115, 1), (1128, 5), (1130, 201), (1131, 1), (1132, 1)])

/-- A memory that holds what a SAVE writes; a valid image that no SAVE wrote, with every byte answered and without its
section flags. -/
theorem witness_LoadRestoresWhatSaveWrote :
    (let u := { State.reset with image := savedImage shelf }
     RecordsInRange shelf ∧ RangesDisjoint shelf ∧ u.phase = .hold ∧
     ∀ a, a < 1133 → Memory.read u.image a = shelf.imageBytes.getD a 0) ∧
    let m := foreignImage 3
    let s := { State.reset with image := m }
    (s.phase = .hold ∧ Memory.read m 0 = 0x5A ∧ Memory.read m 1 = 0x3C ∧ Memory.read m 2 = 1 ∧
      Memory.read m 4 = 0x04 ∧ Memory.read m 5 = 0x6D ∧
      (Memory.read m 6).toNat * 256 + (Memory.read m 7).toNat =
        (((List.range 1125).map fun i => (Memory.read m (8 + i)).toNat).sum) % 65536) ∧
    (∀ a ∈ ([] : List Nat), a < 1133 → a = 3) ∧ ∀ a ∈ [3], a < 1133 → a = 3 := by
  refine ⟨⟨recordsInRange_shelf, rangesDisjoint_shelf, rfl, fun a h => ?_⟩, by decide +kernel, by simp, by simp⟩
  have e : ({ State.reset with image := savedImage shelf } : State).image = savedImage shelf := rfl
  rw [e]
  exact read_savedImage shelf h

/-- The records of that image that LOAD takes, clamps and replaces (R22, R25, R33, R116). -/
theorem test_load_foreignImage :
    let t (flags : Byte) := after (.load []) { State.reset with image := foreignImage flags }
    ((t 3).line 0).desc =
      { admin := .enabled, base := 0, count := 2, allowance := 30, frameLimit := 60, guarded := false } ∧
    ((t 3).line 1).desc = Descriptor.default ∧
    (t 3).station 0 =
      { enabled := true, home := .f4, side := .ring, pattern := 15, load := 50, selective := true, guarded := false } ∧
    (t 3).station 1 = Station.default ∧
    ((t 3).pattern 0).bursts = [⟨20, 40⟩] ∧ ((t 3).pattern 1).bursts = [⟨4, 4⟩, ⟨4, 48⟩] ∧
    ((t 3).feed .f1).freq = 1 ∧ ((t 3).feed .f1).capacity = 600 ∧ ((t 3).feed .f1).fallback = true ∧
    ((t 3).feed .fb).freq = 5 ∧ ((t 3).feed .fb).capacity = 200 ∧ ((t 3).feed .fb).fallback = false ∧
    ((t 1).feed .fb).capacity = 0 ∧ ((t 1).feed .fb).freq = 1 ∧ (t 3).policy = .byArrival := by
  decide +kernel

/-- With FAULT_CAPTURED held and without. -/
theorem witness_RunBeginsWithStart :
    let s := after (.load []) State.reset
    s.phase = .load ∧ (s.port .m).queue = [] ∧ s.heldCapture = true ∧
    ({ s with heldCapture := false } : State).phase = .load ∧ ({ s with heldCapture := false } : State).heldCapture = false := by
  decide +kernel

/-- What a SAVE is to read back at one address, in the words of the statement. -/
def readsAsWritten (v : SaveInFlight) (r : SaveReport) (a : Nat) : Prop :=
  ∀ c, (r.garbled.filter fun c => c.1 == a).getLast? = some c →
    c.2 = if a = 0 then 0x5A else if a = 1 then 0x3C else v.contents.getD a 0

/-- A report of every write acknowledged and every byte as written; one that stops after the first clear, one that reads
the last byte wrong, and one that fails at the read-back of the signature. -/
theorem witness_SaveEndsAsTheMemoryAnswered :
    let v : SaveInFlight := { contents := shelf.imageBytes, before := [] }
    let s := { shelf with save := some v }
    let good : SaveReport := ⟨1132, [], true, true, true⟩
    let short : SaveReport := ⟨1, [], true, true, true⟩
    let garbled : SaveReport := ⟨1132, [(1132, 9)], true, true, true⟩
    let unsigned : SaveReport := ⟨1132, [], true, false, true⟩
    s.save = some v ∧ v.contents = shelf.imageBytes ∧
    (1132 ≤ good.acks ∧ good.answers = true ∧ good.signatureAnswers = true ∧ (∀ c ∈ good.garbled, c.1 < 1133) ∧
      ∀ a, readsAsWritten v good a) ∧
    (1 ≤ short.acks ∧ ¬1132 ≤ short.acks) ∧
    ((∀ c ∈ garbled.garbled, c.1 < 1133) ∧ 1 ≤ garbled.acks ∧ ¬readsAsWritten v garbled 1132) ∧
    (1132 ≤ unsigned.acks ∧ unsigned.answers = true ∧ unsigned.signatureAnswers = false ∧
      unsigned.clearsAgain = true) := by
  intro v s good short garbled unsigned
  refine ⟨rfl, rfl, ⟨by decide, rfl, rfl, by decide, fun a c h => nomatch (show (none : Option (Nat × Byte)) = some c from h)⟩, by decide,
    ⟨by decide, by decide, fun h => ?_⟩, by decide⟩
  have e : ¬(9 : Byte) = shelf.imageBytes.getD 1132 0 := by decide +kernel
  exact e (h (1132, 9) rfl)

/-! Promises that every step keeps: each kept by a shelf with work, whose next command completes. -/

/-- The shelf with a job about to ring and a CADENCE_TICK waiting. -/
def busyShelf : State :=
  { withJob placedJob with pos := 9, pending := [.cadenceTick] }

theorem busyShelf_steps : ∃ t, step busyShelf = .next t := ⟨after .cadenceTick { busyShelf with pending := [] }, rfl⟩

theorem busyShelf_job {l : Fin 32} {j : Job} (h : busyShelf.job? l = some j) : l = 3 ∧ j = placedJob := by
  have hj : j = placedJob := List.mem_singleton.mp (List.mem_of_find?_eq_some h)
  have hl := List.find?_some h
  rw [hj] at hl
  exact ⟨(beq_iff_eq.mp hl).symm, hj⟩

theorem busyShelf_revert (l : Fin 32) : busyShelf.revert? l = none := rfl

theorem revertsPaired_busyShelf : RevertsPaired busyShelf := by
  have hr := busyShelf_revert
  intro l
  refine ⟨⟨fun h => by simp [State.hasRevert, hr] at h, ?_⟩, ?_⟩
  · rintro ⟨j, h, ht⟩
    rw [(busyShelf_job h).2] at ht; cases ht
  · intro j h
    rw [(busyShelf_job h).2]
    constructor
    · intro h; cases h
    · rintro ⟨r, h, _⟩; rw [hr] at h; cases h

theorem witness_StepKeepsMemoryCanonical : MemoryCanonical busyShelf ∧ ∃ t, step busyShelf = .next t :=
  ⟨⟨by decide +kernel, fun v h => nomatch (show (none : Option SaveInFlight) = some v from h)⟩, busyShelf_steps⟩

/-- No finding waits on a shelf whose list of findings is empty. -/
theorem findingsMatch_of_none {s : State} (h : s.findings = []) : FindingsMatch s := by
  have e : ∀ l, findingsOf s l = [] := fun l => by simp [findingsOf, h]
  intro l
  rw [e]
  exact ⟨fun k hk => by simp at hk, .nil⟩

theorem witness_StepKeepsQueuesAndService :
    (QueuesBounded busyShelf ∧ OutOfServiceQuiet busyShelf ∧ TakenOverIsOut busyShelf ∧ MissedNeedARecord busyShelf ∧
      CaptureHeldInLoad busyShelf ∧ WorkOnlyInRun busyShelf ∧ RevertsPaired busyShelf ∧ EnabledScanned busyShelf ∧ FindingsMatch busyShelf ∧ WorkMatchesTheHook busyShelf ∧
      LinesBound busyShelf) ∧ ∃ t, step busyShelf = .next t := by
  refine ⟨⟨?_, ?_, fun x h => (nomatch (show (none : Option TakenOver) = some x from h)), fun _ => rfl,
    fun h => absurd h (by decide +kernel), fun h => absurd rfl h, revertsPaired_busyShelf, ?_, findingsMatch_of_none rfl,
    ⟨?_, fun l r h => absurd ((busyShelf_revert l).symm.trans h) (by simp), ?_⟩, ⟨?_, fun l r h => absurd ((busyShelf_revert l).symm.trans h) (by simp), ?_⟩⟩,
    busyShelf_steps⟩
  · intro p; cases p <;> decide +kernel
  · intro p; cases p <;> decide +kernel
  · unfold EnabledScanned; decide +kernel
  · have met : ∀ l, ¬MetOffHook busyShelf l := by unfold MetOffHook; decide +kernel
    exact fun l _ _ _ => .inl (met l)
  · have quiet : ∀ l, (busyShelf.line l).parked = false := by decide +kernel
    exact fun l h => absurd ((quiet l).symm.trans h) (by simp)
  · intro l j h
    obtain ⟨rfl, rfl⟩ := busyShelf_job h
    decide +kernel
  · decide +kernel

/-- A shelf with a revert that waits for its caller to hang up. -/
theorem witness_StepKeepsJobsAndReverts :
    let s := { withRevert demoRevert reservedJob with pending := [.cadenceTick] }
    (PoolBounded s ∧ RevertsBounded s ∧ WorkOnlyInRun s ∧ RevertsPaired s ∧ RevertsNameStations s ∧ JobsShaped s ∧
      RecordsInRange s ∧ CountsInRange s ∧ RunsInRange s) ∧
    ∃ t, step s = .next t := by
  refine ⟨⟨poolBounded_withJob _, ?_, ?_, ?_, ?_, jobsShaped_withJob jobShape_reserved, ?_, ?_, ?_⟩, _, rfl⟩
  · unfold RevertsBounded; decide +kernel
  · intro h; exact absurd rfl h
  · intro l
    by_cases h : l = 3
    · subst h
      exact ⟨⟨fun _ => ⟨reservedJob, rfl, rfl⟩, fun _ => rfl⟩, fun j hj =>
        ⟨fun _ => ⟨demoRevert, rfl, rfl⟩, fun _ => by cases hj; rfl⟩⟩
    · have hj : State.job? { withRevert demoRevert reservedJob with pending := [.cadenceTick] } l = none := by
        show List.find? _ [reservedJob] = none
        simp [reservedJob, demoJob, Ne.symm h]
      have hr : State.hasRevert { withRevert demoRevert reservedJob with pending := [.cadenceTick] } l = false := by
        show (List.find? _ [demoRevert]).isSome = false
        simp [demoRevert, Ne.symm h]
      simp [hj, hr]
  · exact revertsNameStations_demo
  · refine ⟨by decide +kernel, by decide +kernel, by decide +kernel, fun f => ?_⟩
    cases f <;> decide +kernel
  · unfold CountsInRange; decide +kernel
  · refine ⟨fun l => ?_, fun f => ?_, by decide +kernel⟩
    · have scan : ∀ k, ((withRevert demoRevert reservedJob).line k).scan = Line.reset.scan := by decide +kernel
      have hook : ∀ k, ((withRevert demoRevert reservedJob).line k).supervision = .unscanned ∨
          ((withRevert demoRevert reservedJob).line k).supervision = .onHook := by decide +kernel
      show RunsOfLine ((withRevert demoRevert reservedJob).line l)
      rcases hook l with h | h <;> simp [RunsOfLine, scan, h, Line.reset, Scan.reset]
    · cases f <;> decide +kernel

theorem witness_StepKeepsCapacityAndGate :
    (PoolBounded busyShelf ∧ WorkOnlyInRun busyShelf ∧ JobsShaped busyShelf ∧ WithinCapacity busyShelf ∧
      GateHolds busyShelf ∧ NoJobOnFailedFeed busyShelf) ∧ ∃ t, step busyShelf = .next t := by
  refine ⟨⟨poolBounded_withJob _, fun h => absurd rfl h, jobsShaped_withJob jobShape_placed, ?_,
    fun h => absurd h (by decide +kernel), ?_⟩, busyShelf_steps⟩
  · intro f
    cases f <;> decide +kernel
  · intro j hj f hf
    rw [show j = placedJob from List.mem_singleton.mp hj] at hf
    cases hf
    decide +kernel

theorem witness_StepKeepsDriveOnlyRinging :
    (PoolBounded busyShelf ∧ RevertsBounded busyShelf ∧ RevertsPaired busyShelf ∧ RevertsNameStations busyShelf ∧
      WorkOnlyInRun busyShelf ∧ JobsShaped busyShelf ∧ RangesDisjoint busyShelf ∧ CopiesAgree busyShelf ∧
      DriveOnlyRinging busyShelf) ∧ ∃ t, step busyShelf = .next t := by
  refine ⟨⟨poolBounded_withJob _, ?_, revertsPaired_busyShelf, ?_, fun h => absurd rfl h,
    jobsShaped_withJob jobShape_placed, ?_, ?_, ?_⟩, busyShelf_steps⟩
  · unfold RevertsBounded; decide +kernel
  · intro r hr; exact absurd (show r ∈ ([] : List Revert) from hr) (by simp)
  · unfold RangesDisjoint; decide +kernel
  · intro j hj i hi
    rw [show j = placedJob from List.mem_singleton.mp hj] at hi ⊢
    cases hi
    decide +kernel
  · intro l d h
    have : ∀ l, (busyShelf.line l).drive = none := by decide +kernel
    rw [this] at h; cases h

theorem witness_StepKeepsTheConfiguration :
    (WorkOnlyInRun busyShelf ∧ DisabledIdle busyShelf ∧ EnabledScanned busyShelf ∧ RangesDisjoint busyShelf ∧
      RecordsInRange busyShelf) ∧ ∃ t, step busyShelf = .next t := by
  refine ⟨⟨fun h => absurd rfl h, ?_, ?_, ?_, ?_⟩, busyShelf_steps⟩
  · unfold DisabledIdle; decide +kernel
  · unfold EnabledScanned; decide +kernel
  · unfold RangesDisjoint; decide +kernel
  · refine ⟨by decide +kernel, by decide +kernel, by decide +kernel, fun f => ?_⟩
    cases f <;> decide +kernel

end Sys2Proof.Machine
end

section
/-! PROOFS. What can happen to the pool and the revert table: every change that a command makes in RUN is one of the
changes named here, and each keeps what the promises say of a job. -/

namespace Sys2Proof.Machine

/-! ### Reading the pool and the table by line -/

/-- With no two entries for one key, looking a key up gives the entry that has it. -/
theorem find?_key_eq_some_iff {α β : Type} [DecidableEq β] (key : α → β) {xs : List α} (hn : (xs.map key).Nodup)
    {b : β} {x : α} : (xs.find? fun a => key a == b) = some x ↔ x ∈ xs ∧ key x = b := by
  constructor
  · intro h
    exact ⟨List.mem_of_find?_eq_some h, by simpa using List.find?_some h⟩
  · rintro ⟨hx, rfl⟩
    induction xs with
    | nil => cases hx
    | cons a xs ih =>
      simp only [List.map_cons, List.nodup_cons] at hn
      rcases List.mem_cons.1 hx with rfl | hx
      · simp
      · have hne : key a ≠ key x := fun e => hn.1 (e ▸ List.mem_map_of_mem hx)
        simp [hne, ih hn.2 hx]

theorem State.job?_eq_some_iff {s : State} (hn : (s.jobs.map (·.line)).Nodup) {l : Fin 32} {j : Job} :
    s.job? l = some j ↔ j ∈ s.jobs ∧ j.line = l :=
  find?_key_eq_some_iff Job.line hn

theorem State.revert?_eq_some_iff {s : State} (hn : (s.reverts.map (·.line)).Nodup) {l : Fin 32} {r : Revert} :
    s.revert? l = some r ↔ r ∈ s.reverts ∧ r.line = l :=
  find?_key_eq_some_iff Revert.line hn

theorem State.hasRevert_iff {s : State} {l : Fin 32} : s.hasRevert l = true ↔ ∃ r ∈ s.reverts, r.line = l := by
  simp [State.hasRevert, State.revert?]

/-! ### What a job holds (R50) -/

/-- A job that is not RESERVED holds its station's properties, a phase while it is placed and a feed unless SUSPENDED. -/
theorem jobShape_active {j : Job} (h : j.state ≠ .reserved) :
    JobShape j ↔ j.station.isSome = true ∧ j.pattern.isSome = true ∧ j.load.isSome = true ∧ j.home.isSome = true ∧
      (j.phase.isSome = true ↔ j.placed = true) ∧ (j.current.isSome = true ↔ j.state ≠ .suspended) := by
  cases hs : j.state <;> simp_all [JobShape]

/-- A RESERVED job holds none of its station's properties. -/
theorem jobShape_reserved_iff {j : Job} (h : j.state = .reserved) :
    JobShape j ↔ j.station = none ∧ j.pattern = none ∧ j.load = none ∧ j.home = none ∧ j.current = none ∧
      j.phase = none := by
  simp [JobShape, h]

/-- A job that stands on a feed is not RESERVED. -/
theorem not_reserved_of_current {j : Job} (hs : JobShape j) (hc : j.current.isSome = true) : j.state ≠ .reserved := by
  intro h
  obtain ⟨-, -, -, -, hn, -⟩ := (jobShape_reserved_iff h).1 hs
  simp [hn] at hc

/-- A job with a home feed is not RESERVED. -/
theorem not_reserved_of_home {j : Job} (hs : JobShape j) (hc : j.home.isSome = true) : j.state ≠ .reserved := by
  intro h
  obtain ⟨-, -, -, hn, -, -⟩ := (jobShape_reserved_iff h).1 hs
  simp [hn] at hc

/-- A placed job stands on a feed. -/
theorem current_isSome_of_placed {j : Job} (hs : JobShape j) (hp : j.placed = true) : j.current.isSome = true := by
  have hr : j.state ≠ .reserved := by rintro h; simp [Job.placed, h] at hp
  obtain ⟨-, -, -, -, -, hc⟩ := (jobShape_active hr).1 hs
  exact hc.2 (by rintro h; simp [Job.placed, h] at hp)

theorem Job.placed_iff {j : Job} : j.placed = true ↔ j.state = .placed ∨ j.state = .ringing := by
  simp [Job.placed]

/-! ### Target selection (R47) and a party's station (R32, R46) -/

/-- What target selection makes of a job: nothing without a home feed, and otherwise WAITING on a GOOD feed or
SUSPENDED. -/
theorem State.selectTarget_cases (s : State) (j : Job) :
    (j.home = none ∧ s.selectTarget j = j) ∨
    ∃ h, j.home = some h ∧
      ((∃ f, (s.feed f).state = .good ∧
          s.selectTarget j = { j with state := .waiting, current := some f, phase := none, waitTimer := 0 }) ∨
        s.selectTarget j = { j with state := .suspended, current := none, phase := none, waitTimer := 0 }) := by
  unfold State.selectTarget
  split
  · next h => exact .inl ⟨h, rfl⟩
  · next h hh =>
    refine .inr ⟨h, hh, ?_⟩
    rcases s.target_cases h (s.jobSelective j) with ⟨f, ht, hg, -⟩ | ht
    · exact .inl ⟨f, hg, by simp [ht]⟩
    · exact .inr (by simp [ht])

/-- What taking a party's station makes of a job: nothing without such a station, and otherwise the station's properties
with WAITING on a GOOD feed or SUSPENDED. -/
theorem State.takeStation_cases (s : State) (y : Fin 8) (j : Job) :
    (stationIndex (s.line j.line).desc y = none ∧ s.takeStation y j = j) ∨
    ∃ i, stationIndex (s.line j.line).desc y = some i ∧
      ∃ v f, ((v = .waiting ∧ ∃ g, f = some g ∧ (s.feed g).state = .good) ∨ (v = .suspended ∧ f = none)) ∧
        s.takeStation y j = { j with
          party := y, station := some i, pattern := some (s.station i).pattern,
          load := some ((s.station i).load + (s.line j.line).desc.allowance), home := some (s.station i).home,
          state := v, current := f, phase := none, waitTimer := 0 } := by
  unfold State.takeStation
  split
  · next h => exact .inl ⟨h, rfl⟩
  · next i hi =>
    refine .inr ⟨i, hi, ?_⟩
    dsimp only
    rcases s.selectTarget_cases { j with
      party := y, station := some i, pattern := some (s.station i).pattern,
      load := some ((s.station i).load + (s.line j.line).desc.allowance), home := some (s.station i).home }
      with ⟨hn, -⟩ | ⟨h, -, ⟨f, hg, e⟩ | e⟩
    · cases hn
    · exact ⟨.waiting, some f, .inl ⟨rfl, f, rfl, hg⟩, e⟩
    · exact ⟨.suspended, none, .inr ⟨rfl, rfl⟩, e⟩

/-- A job that takes a station holds what its state says. -/
theorem State.takeStation_shape {s : State} {y : Fin 8} {j : Job} (h : JobShape j) : JobShape (s.takeStation y j) := by
  rcases s.takeStation_cases y j with ⟨-, e⟩ | ⟨i, -, v, f, ⟨rfl, g, rfl, -⟩ | ⟨rfl, rfl⟩, e⟩
  · rw [e]; exact h
  · rw [e]; simp [JobShape, Job.placed]
  · rw [e]; simp [JobShape, Job.placed]

/-- A job that takes a station in the pool is WAITING or SUSPENDED, and holds what its state says. -/
theorem State.takeStation_taken {s : State} {y : Fin 8} {j : Job}
    (h : (stationIndex (s.line j.line).desc y).isSome = true) :
    ((s.takeStation y j).state = .waiting ∨ (s.takeStation y j).state = .suspended) ∧ JobShape (s.takeStation y j) := by
  rcases s.takeStation_cases y j with ⟨hn, -⟩ | ⟨i, -, v, f, ⟨rfl, g, rfl, -⟩ | ⟨rfl, rfl⟩, e⟩
  · simp [hn] at h
  · rw [e]; simp [JobShape, Job.placed]
  · rw [e]; simp [JobShape, Job.placed]

@[simp] theorem State.takeStation_turn (s : State) (y : Fin 8) (j : Job) : (s.takeStation y j).turn = j.turn := by
  rcases s.takeStation_cases y j with ⟨-, e⟩ | ⟨i, -, v, f, -, e⟩ <;> rw [e]

/-! ### The changes of a job -/

/-- What one command can make of a job in RUN in one change, other than placing it. -/
inductive JobChange (s : State) (j : Job) : Job → Prop
  | same : JobChange s j j
  /-- Shed from the feed it stands on (R41). -/
  | shed (h : JobShape j → j.current.isSome = true) : JobChange s j (s.shedJob j)
  /-- Moved to another plane with its line (R114, R153). -/
  | reowned (p : Port) : JobChange s j { j with owner := p }
  /-- Promoted (R67). -/
  | raised (c : Fin 4) (h : j.cls ≤ c) : JobChange s j { j with cls := c }
  /-- Enters RINGING at its boundary (R56). -/
  | rings (h : j.state = .placed) : JobChange s j { j with state := .ringing }
  /-- A frame short of the limit has been rung (R59). -/
  | frame (h : j.framesRung + 1 ≠ j.frameLimit) : JobChange s j { j with framesRung := j.framesRung + 1 }
  /-- Has waited one tick more, short of the end (R61). -/
  | waits (h : j.waitTimer + 1 ≠ 300) : JobChange s j { j with waitTimer := j.waitTimer + 1 }
  /-- Returns from FB to its GOOD home feed (R123). -/
  | home (hs : j.state = .ringing) (hh : ∃ h, j.home = some h ∧ (s.feed h).state = .good) :
      JobChange s j { j with state := .waiting, current := j.home, phase := none, waitTimer := 0 }
  /-- Moved off a failing feed (R120). -/
  | moved : JobChange s j (s.selectTarget j)
  /-- A turn takes the other party's station (R103). -/
  | turned (y : Fin 8) (u : Turn) (hs : j.state ≠ .reserved) (hr : ∃ r ∈ s.reverts, r.line = j.line) :
      JobChange s j (s.takeStation y { j with turn := some u })
  /-- Its home feed has recovered (R121). -/
  | recovered (f : Feed) (hf : (s.feed f).state = .good) : JobChange s j (recoverJob f j)

variable {s : State} {j j' : Job}

/-- What a recovery makes of a job: nothing, or WAITING on the recovered home feed without a phase. -/
theorem recoverJob_cases (f : Feed) (j : Job) :
    recoverJob f j = j ∨
    j.home = some f ∧
      ((j.state = .suspended ∧ recoverJob f j = { j with state := .waiting, current := some f, waitTimer := 0 }) ∨
       (j.state = .waiting ∧ recoverJob f j = { j with current := some f }) ∨
       (j.state = .placed ∧
        recoverJob f j = { j with state := .waiting, current := some f, phase := none, waitTimer := 0 })) := by
  unfold recoverJob
  split
  · next hh =>
    cases hs : j.state
    case waiting => by_cases hc : j.current = some .fb <;> simp [hc, hh]
    case placed => by_cases hc : j.current = some .fb <;> simp [hc, hh]
    case suspended => simp [hh]
    case reserved => simp
    case ringing => simp
  · exact .inl rfl

/-- A change keeps the line of a job. -/
theorem JobChange.line (h : JobChange s j j') : j'.line = j.line := by
  cases h
  case recovered f _ =>
    rcases recoverJob_cases f j with e | ⟨-, ⟨-, e⟩ | ⟨-, e⟩ | ⟨-, e⟩⟩ <;> rw [e]
  all_goals simp

/-- A changed job holds what its state says (R50). -/
theorem JobChange.shape (h : JobChange s j j') (hs : JobShape j) : JobShape j' := by
  cases h
  case same => exact hs
  case shed hc =>
    obtain ⟨h1, h2, h3, h4, -, -⟩ := (jobShape_active (not_reserved_of_current hs (hc hs))).1 hs
    obtain ⟨f, hf⟩ := Option.isSome_iff_exists.1 (hc hs)
    obtain ⟨b, hb⟩ := Option.isSome_iff_exists.1 h4
    refine (jobShape_active (by simp)).2 ⟨h1, h2, h3, h4, by simp [Job.placed], ?_⟩
    simp only [State.shedJob, hb, hf]
    split <;> simp
  case reowned => exact hs
  case raised => exact hs
  case rings hp => simpa [JobShape, Job.placed, hp] using hs
  case frame => exact hs
  case waits => exact hs
  case home hr hh =>
    obtain ⟨h1, h2, h3, h4, -, -⟩ := (jobShape_active (by simp [hr])).1 hs
    exact (jobShape_active (by simp)).2 ⟨h1, h2, h3, h4, by simp [Job.placed], by simpa using h4⟩
  case moved =>
    rcases s.selectTarget_cases j with ⟨-, e⟩ | ⟨b, hb, ho⟩
    · rw [e]; exact hs
    · obtain ⟨h1, h2, h3, h4, -, -⟩ := (jobShape_active (not_reserved_of_home hs (by simp [hb]))).1 hs
      rcases ho with ⟨f, -, e⟩ | e <;> rw [e] <;>
        exact (jobShape_active (by simp)).2 ⟨h1, h2, h3, h4, by simp [Job.placed], by simp⟩
  case turned => exact State.takeStation_shape hs
  case recovered f _ =>
    rcases recoverJob_cases f j with e | ⟨hb, ho⟩
    · rw [e]; exact hs
    · obtain ⟨h1, h2, h3, h4, h5, -⟩ := (jobShape_active (not_reserved_of_home hs (by simp [hb]))).1 hs
      rcases ho with ⟨hv, e⟩ | ⟨hv, e⟩ | ⟨hv, e⟩ <;> rw [e]
      · exact (jobShape_active (by simp)).2 ⟨h1, h2, h3, h4, by simpa [Job.placed, hv] using h5, by simp⟩
      · exact (jobShape_active (by simp [hv])).2 ⟨h1, h2, h3, h4, h5, by simp [hv]⟩
      · exact (jobShape_active (by simp)).2 ⟨h1, h2, h3, h4, by simp [Job.placed], by simp⟩

/-- No change makes a job RESERVED or ends its reservation (R96, R99). -/
theorem JobChange.reserved_iff (h : JobChange s j j') (hs : JobShape j) :
    j'.state = .reserved ↔ j.state = .reserved := by
  cases h
  case shed hc => simp [not_reserved_of_current hs (hc hs)]
  case rings hp => simp [hp]
  case home hr _ => simp [hr]
  case moved =>
    rcases s.selectTarget_cases j with ⟨-, e⟩ | ⟨b, hb, ⟨f, -, e⟩ | e⟩
    · rw [e]
    all_goals rw [e]; simp [not_reserved_of_home hs (by simp [hb])]
  case turned y u hr _ =>
    rcases s.takeStation_cases y { j with turn := some u } with ⟨-, e⟩ | ⟨i, -, v, f, hv, e⟩
    · rw [e]
    · rcases hv with ⟨rfl, -⟩ | ⟨rfl, -⟩ <;> simp [e, hr]
  case recovered f _ =>
    rcases recoverJob_cases f j with e | ⟨-, ⟨hv, e⟩ | ⟨hv, e⟩ | ⟨hv, e⟩⟩ <;> rw [e]
    all_goals simp [hv]
  all_goals exact Iff.rfl

/-- A change makes no ordinary job a revert's, nor the other way round. -/
theorem JobChange.turn_iff (h : JobChange s j j') (ht : j.turn.isSome = true ↔ ∃ r ∈ s.reverts, r.line = j.line) :
    j'.turn.isSome = true ↔ ∃ r ∈ s.reverts, r.line = j.line := by
  cases h
  case moved =>
    rcases s.selectTarget_cases j with ⟨-, e⟩ | ⟨b, -, ⟨f, -, e⟩ | e⟩ <;> rw [e] <;> exact ht
  case turned y u _ hr =>
    simpa using hr
  case recovered f _ =>
    rcases recoverJob_cases f j with e | ⟨-, ⟨-, e⟩ | ⟨-, e⟩ | ⟨-, e⟩⟩ <;> rw [e] <;> exact ht
  all_goals exact ht

/-- The counts of a job stay below their ends (R41, R59, R61). -/
def JobCounts (j : Job) : Prop :=
  j.framesRung < j.frameLimit ∧ j.frameLimit ≤ 60 ∧ j.waitTimer < 300 ∧ j.shedCount ≤ 255

theorem State.takeStation_counts {y : Fin 8} (h : JobCounts j) : JobCounts (s.takeStation y j) := by
  obtain ⟨h1, h2, h3, h4⟩ := h
  rcases s.takeStation_cases y j with ⟨-, e⟩ | ⟨i, -, v, f, -, e⟩ <;> rw [e]
  · exact ⟨h1, h2, h3, h4⟩
  · exact ⟨h1, h2, by simp, h4⟩

theorem JobChange.counts (h : JobChange s j j') (hc : JobCounts j) : JobCounts j' := by
  obtain ⟨h1, h2, h3, h4⟩ := hc
  cases h
  case shed => exact ⟨h1, h2, by simp [State.shedJob], by simp [State.shedJob]⟩
  case frame hf => exact ⟨by simp only; omega, h2, h3, h4⟩
  case waits hw => exact ⟨h1, h2, by simp only; omega, h4⟩
  case home => exact ⟨h1, h2, by simp, h4⟩
  case moved =>
    rcases s.selectTarget_cases j with ⟨-, e⟩ | ⟨b, -, ⟨f, -, e⟩ | e⟩ <;> rw [e]
    · exact ⟨h1, h2, h3, h4⟩
    all_goals exact ⟨h1, h2, by simp, h4⟩
  case turned => exact State.takeStation_counts ⟨h1, h2, h3, h4⟩
  case recovered f _ =>
    rcases recoverJob_cases f j with e | ⟨-, ⟨-, e⟩ | ⟨-, e⟩ | ⟨-, e⟩⟩ <;> rw [e]
    · exact ⟨h1, h2, h3, h4⟩
    · exact ⟨h1, h2, by simp, h4⟩
    · exact ⟨h1, h2, h3, h4⟩
    · exact ⟨h1, h2, by simp, h4⟩
  all_goals exact ⟨h1, h2, h3, h4⟩

/-- A job keeps its reservation as it was: it was placed before, on the same feed at the same phase with the same load,
and its class has not fallen. -/
structure SameReservation (j j' : Job) : Prop where
  placed : j.placed = true
  current : j'.current = j.current
  pattern : j'.pattern = j.pattern
  phase : j'.phase = j.phase
  load : j'.load = j.load
  cls : j.cls ≤ j'.cls

theorem SameReservation.refl (h : j.placed = true) : SameReservation j j := ⟨h, rfl, rfl, rfl, rfl, le_rfl⟩

/-- A job that takes a station keeps a reservation only where there is no such station. -/
theorem State.takeStation_reservation {y : Fin 8} {j : Job} (hp : (s.takeStation y j).placed = true) :
    SameReservation j (s.takeStation y j) := by
  rcases s.takeStation_cases y j with ⟨-, e⟩ | ⟨i, -, v, f, hv, e⟩ <;> rw [e] at hp ⊢
  · exact .refl hp
  · rcases hv with ⟨rfl, -⟩ | ⟨rfl, -⟩ <;> simp [Job.placed] at hp

/-- A job that takes a station stands on a GOOD feed, or where it stood (R47). -/
theorem State.takeStation_current {y : Fin 8} {j : Job} {f : Feed} (hf : (s.takeStation y j).current = some f) :
    (s.feed f).state = .good ∨ j.current = some f := by
  rcases s.takeStation_cases y j with ⟨-, e⟩ | ⟨i, -, v, g, hv, e⟩ <;> rw [e] at hf
  · exact .inr hf
  · rcases hv with ⟨-, g, rfl, hg⟩ | ⟨-, rfl⟩
    · cases hf; exact .inl hg
    · cases hf

/-- No change gives a job a reservation that it did not have (R50). -/
theorem JobChange.reservation (h : JobChange s j j') (hp : j'.placed = true) : SameReservation j j' := by
  cases h
  case shed => simp [Job.placed] at hp
  case raised c hc => exact ⟨hp, rfl, rfl, rfl, rfl, hc⟩
  case rings hr => exact ⟨by simp [Job.placed, hr], rfl, rfl, rfl, rfl, le_rfl⟩
  case home => simp [Job.placed] at hp
  case moved =>
    rcases s.selectTarget_cases j with ⟨-, e⟩ | ⟨b, -, ⟨f, -, e⟩ | e⟩ <;> rw [e] at hp ⊢
    · exact .refl hp
    all_goals simp [Job.placed] at hp
  case turned y u _ _ =>
    obtain ⟨hplaced, hcurrent, hpattern, hphase, hload, hcls⟩ := State.takeStation_reservation hp
    exact ⟨hplaced, hcurrent, hpattern, hphase, hload, hcls⟩
  case recovered f _ =>
    rcases recoverJob_cases f j with e | ⟨-, ⟨-, e⟩ | ⟨hv, e⟩ | ⟨-, e⟩⟩ <;> rw [e] at hp ⊢
    · exact .refl hp
    · simp [Job.placed] at hp
    · simp [Job.placed, hv] at hp
    · simp [Job.placed] at hp
  all_goals exact ⟨hp, rfl, rfl, rfl, rfl, le_rfl⟩

/-- A changed job stands on a GOOD feed, or where it stood (R47, R124, R131). -/
theorem JobChange.current_good (h : JobChange s j j') {f : Feed} (hf : j'.current = some f) :
    (s.feed f).state = .good ∨ j.current = some f := by
  cases h
  case shed =>
    simp only [State.shedJob] at hf
    split at hf
    · split at hf
      · next hg => cases hf; exact .inl hg.2
      · exact .inr hf
    · exact .inr hf
  case home hh =>
    obtain ⟨h, hb, hg⟩ := hh
    have : h = f := by simpa [hb] using hf
    exact .inl (this ▸ hg)
  case moved =>
    rcases s.selectTarget_cases j with ⟨-, e⟩ | ⟨b, -, ⟨g, hg, e⟩ | e⟩ <;> rw [e] at hf
    · exact .inr hf
    · cases hf; exact .inl hg
    · cases hf
  case turned y u _ _ =>
    exact State.takeStation_current (j := { j with turn := some u }) hf
  case recovered b hg =>
    rcases recoverJob_cases b j with e | ⟨-, ⟨-, e⟩ | ⟨-, e⟩ | ⟨-, e⟩⟩ <;> rw [e] at hf
    · exact .inr hf
    all_goals cases hf; exact .inl hg
  all_goals exact .inr hf

end Sys2Proof.Machine
end

section
/-! PROOFS. The changes of the pool and the revert table together, and the promises of the pool that each keeps (R45, R46,
R50, R92 to R96). -/

namespace Sys2Proof.Machine

/-- What one command can make of a revert record in RUN in one change, other than starting its ringing. -/
inductive RevertChange (s : State) (r : Revert) : Revert → Prop
  | same : RevertChange s r r
  /-- Moved to another plane with its line (R114, R153). -/
  | reowned (p : Port) : RevertChange s r { r with owner := p }
  /-- Has waited one tick more for the hang-up, short of the end (R98). -/
  | waits (h : s.revert? r.line = some r → r.hangupTimer + 1 ≠ 300) :
      RevertChange s r { r with hangupTimer := r.hangupTimer + 1 }
  /-- A turn (R103). -/
  | flipped : RevertChange s r { r with state := flipRevert r.state }

/-- The counts of a revert record stay in their ranges (R92, R98). -/
def RevertCounts (r : Revert) : Prop := r.hangupTimer < 300 ∧ 1 ≤ r.frameLimit ∧ r.frameLimit ≤ 60

/-- A change of a revert record keeps its line and its parties. -/
theorem RevertChange.parties {s : State} {r r' : Revert} (h : RevertChange s r r') :
    r'.line = r.line ∧ r'.caller = r.caller ∧ r'.called = r.called := by
  cases h <;> exact ⟨rfl, rfl, rfl⟩

theorem RevertChange.awaits_iff {s : State} {r r' : Revert} (h : RevertChange s r r') :
    r'.state = .awaitHangup ↔ r.state = .awaitHangup := by
  cases h
  case flipped => cases hs : r.state <;> simp [flipRevert]
  all_goals exact Iff.rfl

theorem RevertChange.counts {s : State} {r r' : Revert} (h : RevertChange s r r')
    (hr : s.revert? r.line = some r) (hc : RevertCounts r) : RevertCounts r' := by
  obtain ⟨h1, h2, h3⟩ := hc
  cases h
  case waits hw => exact ⟨by have := hw hr; simp only; omega, h2, h3⟩
  all_goals exact ⟨h1, h2, h3⟩

/-- The RESERVED job of a revert (R96). -/
def reservedFor (r : Revert) : Job :=
  { line := r.line, party := r.called, station := none, owner := r.owner, cls := 2, pattern := none, load := none,
    home := none, current := none, state := .reserved, phase := none, framesRung := 0, frameLimit := r.frameLimit,
    progress := false, waitTimer := 0, shedCount := 0, turn := some .called }

/-- What one command can make of the pool and the revert table in RUN in one change. -/
inductive PoolChange (s : State) : List Job → List Revert → Prop
  | map (g : Job → Job) (h : Revert → Revert) (hg : ∀ j ∈ s.jobs, JobChange s j (g j))
      (hh : ∀ r ∈ s.reverts, RevertChange s r (h r)) : PoolChange s (s.jobs.map g) (s.reverts.map h)
  /-- A WAITING job that the gate does not hold is placed at a phase that fits (R36, R37, R39). -/
  | place {l : Fin 32} {j : Job} {f : Feed} {k : Fin 16} {n : Nat} {ph : Fin 12} (hj : s.job? l = some j)
      (hw : j.state = .waiting) (hg : s.gated j = false) (hf : j.current = some f) (hk : j.pattern = some k)
      (hn : j.load = some n) (hfit : s.fits f (s.pattern k) n ph = true) :
      PoolChange s (s.modJob l fun j => { j with state := .placed, phase := some ph }).jobs s.reverts
  /-- The work of a line ends (R71, R109). -/
  | drop (l : Fin 32) : PoolChange s (s.jobs.filter fun j => j.line != l) (s.reverts.filter fun r => r.line != l)
  /-- A RING is accepted (R52). -/
  | ring {p : Port} {l : Fin 32} {y : Fin 8} {c : Fin 4} {b : Byte} {notice : Bool}
      (hi : (stationIndex (s.line l).desc y).isSome = true) (hj : s.hasJob l = false) (hr : s.hasRevert l = false)
      (hl : s.jobs.length < 24) :
      PoolChange s
        (s.jobs ++ [s.takeStation y (ringJob p l y c (clampLimit (s.line l).desc.frameLimit b) notice)]) s.reverts
  /-- A REVERT is accepted (R96). -/
  | reserve {r : Revert} {b : Byte} (hi : (stationIndex (s.line r.line).desc r.caller).isSome = true)
      (hk : (stationIndex (s.line r.line).desc r.called).isSome = true) (hj : s.hasJob r.line = false)
      (hr : s.hasRevert r.line = false) (hl : s.jobs.length < 24) (hm : s.reverts.length < 8)
      (hs : r.state = .awaitHangup) (ht : r.hangupTimer = 0)
      (hn : r.frameLimit = clampLimit (s.line r.line).desc.frameLimit b) :
      PoolChange s (s.jobs ++ [reservedFor r]) (s.reverts ++ [r])
  /-- The caller has hung up (R99). -/
  | hangUp {l : Fin 32} {r : Revert} (hr : s.revert? l = some r) :
      PoolChange s (s.modJob l (s.takeStation r.called)).jobs
        (s.modRevert l fun r => { r with state := .ringingCalled }).reverts

/-- Nothing in the pool or the table changes. -/
theorem PoolChange.none {s : State} : PoolChange s s.jobs s.reverts := by
  simpa using PoolChange.map (s := s) id id (fun _ _ => .same) fun _ _ => .same

/-- A line's jobs change alone. -/
theorem PoolChange.modJobs {s : State} {l : Fin 32} {g : Job → Job}
    (hg : ∀ j ∈ s.jobs, j.line = l → JobChange s j (g j)) : PoolChange s (s.modJob l g).jobs s.reverts := by
  have h := PoolChange.map (s := s) (fun j => if j.line = l then g j else j) id (fun j hj => ?_) fun _ _ => .same
  · simpa [State.modJob] using h
  · split
    · next hl => exact hg j hj hl
    · exact .same

/-- Every change leaves at most 24 jobs, no two for one line (R45). -/
theorem PoolChange.pool {s t : State} (h : PoolChange s t.jobs t.reverts) (hp : PoolBounded s) : PoolBounded t := by
  unfold PoolBounded
  generalize t.jobs = jobs at h ⊢
  generalize t.reverts = reverts at h
  have hmap {g : Job → Job} (hg : ∀ j ∈ s.jobs, (g j).line = j.line) :
      (s.jobs.map g).length ≤ 24 ∧ ((s.jobs.map g).map (·.line)).Nodup := by
    rw [List.length_map, List.map_map, List.map_congr_left (f := (·.line) ∘ g) (g := (·.line)) hg]
    exact hp
  have happ {j : Job} (hj : s.hasJob j.line = false) (hl : s.jobs.length < 24) :
      (s.jobs ++ [j]).length ≤ 24 ∧ ((s.jobs ++ [j]).map (·.line)).Nodup := by
    rw [List.length_append, List.map_append]
    exact ⟨hl, hp.2.append (by simp) (by simpa using State.hasJob_eq_false.1 hj)⟩
  cases h
  case map g _ hg _ => exact hmap fun j hj => (hg j hj).line
  case place => exact hmap fun j _ => by split <;> rfl
  case drop l =>
    have hsub : (s.jobs.filter fun j => j.line != l).Sublist s.jobs := List.filter_sublist
    exact ⟨hsub.length_le.trans hp.1, hp.2.sublist (hsub.map _)⟩
  case ring p l y c b notice hi hj hr hl => exact happ (by simpa [ringJob] using hj) hl
  case reserve r b hi hk hj hr hl hm hs ht hn => exact happ hj hl
  case hangUp => exact hmap fun j _ => by split <;> simp

/-- Every change leaves each job holding what its state says (R50). -/
theorem PoolChange.shaped {s t : State} (h : PoolChange s t.jobs t.reverts) (hp : PoolBounded s) (hs : JobsShaped s) :
    JobsShaped t := by
  unfold JobsShaped
  generalize t.jobs = jobs at h ⊢
  generalize t.reverts = reverts at h
  cases h
  case map g _ hg _ => exact List.forall_mem_map.2 fun j hj => (hg j hj).shape (hs j hj)
  case place l j f k n ph hj hw _ hf _ _ _ =>
    refine List.forall_mem_map.2 fun i hi => ?_
    split
    · next hl =>
      have e := (State.job?_eq_some_iff hp.2).2 ⟨hi, hl⟩
      rw [hj] at e
      obtain rfl := Option.some.inj e
      obtain ⟨h1, h2, h3, h4, -, -⟩ := (jobShape_active (by simp [hw])).1 (hs j hi)
      exact (jobShape_active (by simp)).2 ⟨h1, h2, h3, h4, by simp [Job.placed], by simp [hf]⟩
    · exact hs i hi
  case drop l => exact fun j hj => hs j (List.mem_filter.1 hj).1
  case ring p l y c b notice hi _ _ _ =>
    have := (s.takeStation_taken (j := ringJob p l y c (clampLimit (s.line l).desc.frameLimit b) notice) hi).2
    simpa [or_imp, forall_and] using ⟨hs, this⟩
  case reserve r _ _ _ _ _ _ _ _ _ _ => simpa [or_imp, forall_and] using ⟨hs, by simp [JobShape, reservedFor]⟩
  case hangUp l r _ =>
    refine List.forall_mem_map.2 fun i hi => ?_
    split
    · exact State.takeStation_shape (hs i hi)
    · exact hs i hi

/-! ### The promises of the pool -/

/-- Reverts and revert jobs come in pairs, and a job is RESERVED exactly while its revert awaits the hang-up, said of the
two lists (R50, R92, R96). -/
def Paired (jobs : List Job) (reverts : List Revert) : Prop :=
  (∀ j ∈ jobs, (j.turn.isSome = true ↔ ∃ r ∈ reverts, r.line = j.line) ∧
    (j.state = .reserved ↔ ∃ r ∈ reverts, r.line = j.line ∧ r.state = .awaitHangup)) ∧
  ∀ r ∈ reverts, ∃ j ∈ jobs, j.line = r.line

theorem revertsPaired_iff {s : State} (hj : (s.jobs.map (·.line)).Nodup) (hr : (s.reverts.map (·.line)).Nodup) :
    RevertsPaired s ↔ Paired s.jobs s.reverts := by
  simp only [RevertsPaired, Paired, State.hasRevert_iff, State.job?_eq_some_iff hj, State.revert?_eq_some_iff hr]
  constructor
  · intro h
    refine ⟨fun j hm => ⟨⟨fun ht => (h j.line).1.2 ⟨j, ⟨hm, rfl⟩, ht⟩, fun hv => ?_⟩, ?_⟩, fun r hm => ?_⟩
    · obtain ⟨k, ⟨hk, e⟩, ht⟩ := (h j.line).1.1 hv
      rwa [List.inj_on_of_nodup_map hj hk hm e] at ht
    · simpa [and_assoc] using (h j.line).2 j ⟨hm, rfl⟩
    · obtain ⟨j, ⟨hm', e⟩, -⟩ := (h r.line).1.1 ⟨r, hm, rfl⟩
      exact ⟨j, hm', e⟩
  · rintro ⟨h1, h2⟩ l
    refine ⟨⟨?_, ?_⟩, ?_⟩
    · rintro ⟨r, hr, rfl⟩
      obtain ⟨j, hm, e⟩ := h2 r hr
      exact ⟨j, ⟨hm, e⟩, (h1 j hm).1.2 ⟨r, hr, e.symm⟩⟩
    · rintro ⟨j, ⟨hm, rfl⟩, ht⟩
      exact (h1 j hm).1.1 ht
    · rintro j ⟨hm, rfl⟩
      simpa [and_assoc] using (h1 j hm).2

/-- The promises about the pool and the revert table (R45, R46, R50, R59, R61, R92 to R96, R98). -/
structure WorkOk (s : State) : Prop where
  pool : PoolBounded s
  table : RevertsBounded s
  paired : Paired s.jobs s.reverts
  stations : RevertsNameStations s
  shaped : JobsShaped s
  counts : (∀ j ∈ s.jobs, JobCounts j) ∧ ∀ r ∈ s.reverts, RevertCounts r

theorem workOk_iff {s : State} :
    WorkOk s ↔ PoolBounded s ∧ RevertsBounded s ∧ RevertsPaired s ∧ RevertsNameStations s ∧ JobsShaped s ∧
      CountsInRange s := by
  constructor
  · rintro ⟨h1, h2, h3, h4, h5, h6⟩
    exact ⟨h1, h2, (revertsPaired_iff h1.2 h2.2).2 h3, h4, h5, h6⟩
  · rintro ⟨h1, h2, h3, h4, h5, h6⟩
    exact ⟨h1, h2, (revertsPaired_iff h1.2 h2.2).1 h3, h4, h5, h6⟩

/-- A part with neither job nor revert keeps every promise about them. -/
theorem WorkOk.idle {s : State} (hj : s.jobs = []) (hr : s.reverts = []) : WorkOk s := by
  constructor <;> simp [PoolBounded, RevertsBounded, Paired, RevertsNameStations, JobsShaped, hj, hr]

/-- The station ranges of every line are as they were. -/
def SameRanges (s t : State) : Prop :=
  ∀ l, (t.line l).desc.base = (s.line l).desc.base ∧ (t.line l).desc.count = (s.line l).desc.count

/-- Every default frame limit is 1 to 60 (R3). -/
def LimitsInRange (s : State) : Prop := ∀ l, 1 ≤ (s.line l).desc.frameLimit ∧ (s.line l).desc.frameLimit ≤ 60

theorem clampLimit_range {n : Nat} (h : 1 ≤ n ∧ n ≤ 60) (b : Byte) : 1 ≤ clampLimit n b ∧ clampLimit n b ≤ 60 := by
  unfold clampLimit
  split <;> omega

/-- A party with a station is below the line's count and its station lies in the pool (R4). -/
theorem stationIndex_isSome_iff {d : Descriptor} {y : Fin 8} :
    (stationIndex d y).isSome = true ↔ y.val < d.count ∧ d.base.val + y.val < 192 := by
  unfold stationIndex
  split <;> simp_all

/-- Both parties of every revert have stations. -/
theorem revertsNameStations_iff {s : State} :
    RevertsNameStations s ↔ ∀ r ∈ s.reverts, (stationIndex (s.line r.line).desc r.caller).isSome = true ∧
      (stationIndex (s.line r.line).desc r.called).isSome = true := by
  simp only [RevertsNameStations, stationIndex_isSome_iff]
  exact forall₂_congr fun r _ => by tauto

section
variable {s t : State}

/-- Jobs and reverts changed one by one keep the promises where each changed job and revert does, and the reverts that
await their hang-up are still those of the RESERVED jobs. -/
theorem WorkOk.of_map (h : WorkOk s) (hd : SameRanges s t) (hp : PoolBounded t) (hs : JobsShaped t)
    {g : Job → Job} {v : Revert → Revert} (ej : t.jobs = s.jobs.map g) (er : t.reverts = s.reverts.map v)
    (hg : ∀ j ∈ s.jobs, (g j).line = j.line ∧ JobCounts (g j) ∧
      ((g j).turn.isSome = true ↔ ∃ r ∈ s.reverts, r.line = j.line) ∧
      ((g j).state = .reserved ↔ ∃ r ∈ s.reverts, r.line = j.line ∧ (v r).state = .awaitHangup))
    (hv : ∀ r ∈ s.reverts, ((v r).line = r.line ∧ (v r).caller = r.caller ∧ (v r).called = r.called) ∧
      RevertCounts (v r)) : WorkOk t := by
  have lr : t.reverts.map (·.line) = s.reverts.map (·.line) := by
    rw [er, List.map_map]; exact List.map_congr_left fun r hr => (hv r hr).1.1
  refine ⟨hp, ⟨?_, lr ▸ h.table.2⟩, ⟨?_, ?_⟩, ?_, hs, ?_, ?_⟩
  · simpa [er] using h.table.1
  · rw [ej, er, List.forall_mem_map]
    intro j hj
    obtain ⟨hl, -, ht, hs⟩ := hg j hj
    have hex (q : Revert → Prop) : (∃ r ∈ s.reverts.map v, q r) ↔ ∃ r ∈ s.reverts, q (v r) := by simp
    rw [hex, hex, hl, ht, hs]
    exact ⟨exists_congr fun r => and_congr_right fun hr => by rw [(hv r hr).1.1],
      exists_congr fun r => and_congr_right fun hr => by rw [(hv r hr).1.1]⟩
  · rw [ej, er, List.forall_mem_map]
    intro r hr
    obtain ⟨j, hj, e⟩ := h.paired.2 r hr
    exact ⟨g j, List.mem_map_of_mem hj, by rw [(hg j hj).1, (hv r hr).1.1, e]⟩
  · rw [RevertsNameStations, er, List.forall_mem_map]
    intro r hr
    obtain ⟨⟨e1, e2, e3⟩, -⟩ := hv r hr
    obtain ⟨eb, ec⟩ := hd r.line
    simpa only [e1, e2, e3, eb, ec] using h.stations r hr
  · rw [ej]; exact List.forall_mem_map.2 fun j hj => (hg j hj).2.1
  · rw [er]; exact List.forall_mem_map.2 fun r hr => (hv r hr).2

/-- The work of one line taken away leaves the promises of the other lines' work. -/
theorem WorkOk.of_drop (h : WorkOk s) (hd : SameRanges s t) (hp : PoolBounded t) (hs : JobsShaped t) (l : Fin 32)
    (ej : t.jobs = s.jobs.filter fun j => j.line != l) (er : t.reverts = s.reverts.filter fun r => r.line != l) :
    WorkOk t := by
  have mj : ∀ j, j ∈ t.jobs ↔ j ∈ s.jobs ∧ j.line ≠ l := fun j => by simp [ej]
  have mr : ∀ r, r ∈ t.reverts ↔ r ∈ s.reverts ∧ r.line ≠ l := fun r => by simp [er]
  have sr : t.reverts.Sublist s.reverts := er ▸ List.filter_sublist
  refine ⟨hp, ⟨sr.length_le.trans h.table.1, h.table.2.sublist (sr.map _)⟩, ⟨fun j hj => ?_, fun r hr => ?_⟩,
    fun r hr => ?_, hs, fun j hj => h.counts.1 j ((mj j).1 hj).1, fun r hr => h.counts.2 r (sr.subset hr)⟩
  · obtain ⟨hj, hl⟩ := (mj j).1 hj
    obtain ⟨ht, hs⟩ := h.paired.1 j hj
    rw [ht, hs]
    exact ⟨exists_congr fun r => by rw [mr]; grind, exists_congr fun r => by rw [mr]; grind⟩
  · obtain ⟨hr, hl⟩ := (mr r).1 hr
    obtain ⟨j, hj, e⟩ := h.paired.2 r hr
    exact ⟨j, (mj j).2 ⟨hj, e ▸ hl⟩, e⟩
  · obtain ⟨eb, ec⟩ := hd r.line
    simpa only [eb, ec] using h.stations r (sr.subset hr)

/-- An ordinary job for an idle line joins the pool. -/
theorem WorkOk.of_ring (h : WorkOk s) (hd : SameRanges s t) (hp : PoolBounded t) (hs : JobsShaped t) {j : Job}
    (ej : t.jobs = s.jobs ++ [j]) (er : t.reverts = s.reverts) (hr : s.hasRevert j.line = false) (hc : JobCounts j)
    (ht : j.turn = none) (hv : j.state ≠ .reserved) : WorkOk t := by
  have nr := State.hasRevert_eq_false.1 hr
  refine ⟨hp, by simpa only [RevertsBounded, er] using h.table, ⟨?_, ?_⟩, ?_, hs, ?_, er ▸ h.counts.2⟩
  · rw [ej, er]
    intro k hk
    rcases List.mem_append.1 hk with hk | hk
    · exact h.paired.1 k hk
    · rw [List.mem_singleton] at hk
      subst hk
      exact ⟨by simpa [ht] using nr, by simpa [hv] using fun r hm e => absurd e (nr r hm)⟩
  · rw [ej, er]
    intro r hm
    obtain ⟨k, hk, e⟩ := h.paired.2 r hm
    exact ⟨k, List.mem_append_left _ hk, e⟩
  · rw [RevertsNameStations, er]
    intro r hm
    obtain ⟨eb, ec⟩ := hd r.line
    simpa only [eb, ec] using h.stations r hm
  · rw [ej]
    simpa [or_imp, forall_and] using ⟨h.counts.1, hc⟩

/-- A revert and its RESERVED job for an idle line join the table and the pool. -/
theorem WorkOk.of_reserve (h : WorkOk s) (hd : SameRanges s t) (hp : PoolBounded t) (hs : JobsShaped t) {r : Revert}
    (ej : t.jobs = s.jobs ++ [reservedFor r]) (er : t.reverts = s.reverts ++ [r])
    (hi : (stationIndex (s.line r.line).desc r.caller).isSome = true)
    (hk : (stationIndex (s.line r.line).desc r.called).isSome = true) (hj : s.hasJob r.line = false)
    (hr : s.hasRevert r.line = false) (hm : s.reverts.length < 8) (hv : r.state = .awaitHangup)
    (hc : RevertCounts r) : WorkOk t := by
  have nj := State.hasJob_eq_false.1 hj
  have nr := State.hasRevert_eq_false.1 hr
  refine ⟨hp, ⟨by simp [er]; omega, ?_⟩, ⟨?_, ?_⟩, ?_, hs, ?_, ?_⟩
  · rw [er, List.map_append]
    exact h.table.2.append (by simp) (by simpa using nr)
  · rw [ej, er]
    intro k hk'
    rcases List.mem_append.1 hk' with hk' | hk'
    · have hne : r.line ≠ k.line := fun e => nj k hk' e.symm
      obtain ⟨h1, h2⟩ := h.paired.1 k hk'
      rw [h1, h2]
      simp [or_and_right, exists_or, hne]
    · rw [List.mem_singleton] at hk'
      subst hk'
      exact ⟨by simp [reservedFor], by simpa [reservedFor] using .inr hv⟩
  · rw [ej, er]
    intro q hq
    rcases List.mem_append.1 hq with hq | hq
    · obtain ⟨k, hk', e⟩ := h.paired.2 q hq
      exact ⟨k, List.mem_append_left _ hk', e⟩
    · rw [List.mem_singleton] at hq
      subst hq
      exact ⟨reservedFor q, by simp, rfl⟩
  · rw [revertsNameStations_iff, er]
    intro q hq
    obtain ⟨eb, ec⟩ := hd q.line
    rcases List.mem_append.1 hq with hq | hq
    · simpa only [stationIndex_isSome_iff, eb, ec] using revertsNameStations_iff.1 h.stations q hq
    · rw [List.mem_singleton] at hq
      subst hq
      simpa only [stationIndex_isSome_iff, eb, ec] using And.intro hi hk
  · rw [ej]
    have hcj : JobCounts (reservedFor r) := ⟨hc.2.1, hc.2.2, by simp [reservedFor], by simp [reservedFor]⟩
    simpa [or_imp, forall_and] using ⟨h.counts.1, hcj⟩
  · rw [er]
    simpa [or_imp, forall_and] using ⟨h.counts.2, hc⟩

/-- Every change of the pool and the table keeps their promises. -/
theorem WorkOk.change (h : WorkOk s) (hn : LimitsInRange s) (hd : SameRanges s t)
    (hc : PoolChange s t.jobs t.reverts) : WorkOk t := by
  have hp := hc.pool h.pool
  have hs := hc.shaped h.pool h.shaped
  generalize ej : t.jobs = jobs at hc
  generalize er : t.reverts = reverts at hc
  cases hc
  case map g v hg hv =>
    refine h.of_map hd hp hs ej er (fun j hj => ⟨(hg j hj).line,
      (hg j hj).counts (h.counts.1 j hj), (hg j hj).turn_iff (h.paired.1 j hj).1, ?_⟩)
      fun r hr => ⟨(hv r hr).parties,
        (hv r hr).counts ((State.revert?_eq_some_iff h.table.2).2 ⟨hr, rfl⟩) (h.counts.2 r hr)⟩
    rw [(hg j hj).reserved_iff (h.shaped j hj), (h.paired.1 j hj).2]
    exact exists_congr fun r => and_congr_right fun hr => by rw [(hv r hr).awaits_iff]
  case place l j f k n ph hj hw hg hf hk hnl hfit =>
    refine h.of_map hd hp hs (v := id) ej (by simpa using er) (fun i hi => ?_)
      fun r hr => ⟨⟨rfl, rfl, rfl⟩, h.counts.2 r hr⟩
    split
    · next hl =>
      have e := (State.job?_eq_some_iff h.pool.2).2 ⟨hi, hl⟩
      rw [hj] at e
      obtain rfl := Option.some.inj e
      have hres := (h.paired.1 j hi).2
      rw [hw] at hres
      exact ⟨rfl, h.counts.1 j hi, (h.paired.1 j hi).1, by simp, fun hx => absurd (hres.2 hx) (by simp)⟩
    · exact ⟨rfl, h.counts.1 i hi, h.paired.1 i hi⟩
  case drop l => exact h.of_drop hd hp hs l ej er
  case ring p l y c b notice hi hj hr hl =>
    obtain ⟨hb1, hb2⟩ := clampLimit_range (hn l) b
    obtain ⟨hv, -⟩ := s.takeStation_taken (j := ringJob p l y c (clampLimit (s.line l).desc.frameLimit b) notice) hi
    exact h.of_ring hd hp hs ej er (by simpa [ringJob] using hr)
      (State.takeStation_counts ⟨hb1, hb2, by simp [ringJob], by simp [ringJob]⟩) (by simp [ringJob])
      (by rcases hv with hv | hv <;> simp [hv])
  case reserve r b hi hk hj hr hl hm hv ht hb =>
    obtain ⟨hb1, hb2⟩ := clampLimit_range (hn r.line) b
    exact h.of_reserve hd hp hs ej er hi hk hj hr hm hv ⟨by omega, by omega, by omega⟩
  case hangUp l r hr =>
    obtain ⟨hrm, hrl⟩ := (State.revert?_eq_some_iff h.table.2).1 hr
    obtain ⟨-, hst⟩ := revertsNameStations_iff.1 h.stations r hrm
    refine h.of_map hd hp hs ej er (fun j hj => ?_) fun q hq => ?_
    · split
      · next hl =>
        subst hl
        obtain ⟨hv, -⟩ := s.takeStation_taken (y := r.called) (j := j) (hrl ▸ hst)
        refine ⟨by simp, State.takeStation_counts (h.counts.1 j hj), by simpa using (h.paired.1 j hj).1, ?_⟩
        refine ⟨fun e => by rcases hv with hv | hv <;> simp [hv] at e, ?_⟩
        rintro ⟨q, -, e, hq⟩
        simp [e] at hq
      · next hl =>
        refine ⟨rfl, h.counts.1 j hj, (h.paired.1 j hj).1, ?_⟩
        rw [(h.paired.1 j hj).2]
        exact exists_congr fun q => and_congr_right fun _ => and_congr_right fun e => by rw [if_neg (e ▸ hl)]
    · split <;> exact ⟨⟨rfl, rfl, rfl⟩, h.counts.2 q hq⟩

end

end Sys2Proof.Machine
end

section
/-! PROOFS. What a command leaves of the rest of the part: the ranges, runs, capacities and feed states that the promises
of the pool speak of, for each shared operation. -/

namespace Sys2Proof.Machine

/-! ### What the promises read of a line, a feed and the part -/

/-- A line keeps its station range and its default frame limit, and its runs stay in range. -/
structure SameLine (x y : Line) : Prop where
  base : y.desc.base = x.desc.base
  count : y.desc.count = x.desc.count
  limit : y.desc.frameLimit = x.desc.frameLimit
  runs : RunsOfLine x → RunsOfLine y

theorem SameLine.refl (x : Line) : SameLine x x := ⟨rfl, rfl, rfl, id⟩

theorem SameLine.trans {x y z : Line} (h : SameLine x y) (k : SameLine y z) : SameLine x z :=
  ⟨k.base.trans h.base, k.count.trans h.count, k.limit.trans h.limit, k.runs ∘ h.runs⟩

/-- A change of the binding, the serial, the drive or the parked flag is nothing to the promises of the pool. -/
theorem SameLine.of_eq {x y : Line} (hd : y.desc = x.desc) (hv : y.supervision = x.supervision)
    (hc : y.scan = x.scan) : SameLine x y :=
  ⟨by rw [hd], by rw [hd], by rw [hd], fun h => by simpa only [RunsOfLine, hv, hc] using h⟩

/-- The runs that the feed monitor counts (R118). -/
def RunsOfFeed (x : FeedRecord) : Prop := x.absentRun < 30 ∧ x.presentRun < 500

/-- A feed keeps its capacity and its state, and its runs stay in range. -/
structure SameFeed (x y : FeedRecord) : Prop where
  capacity : y.capacity = x.capacity
  state : y.state = x.state
  runs : RunsOfFeed x → RunsOfFeed y

theorem SameFeed.refl (x : FeedRecord) : SameFeed x x := ⟨rfl, rfl, id⟩

/-- Everything that the promises of the pool read besides the jobs and the reverts is as it was. -/
structure SameRest (s t : State) : Prop where
  phase : t.phase = s.phase
  patterns : t.patterns = s.patterns
  lines : ∀ l, SameLine (s.line l) (t.line l)
  feeds : ∀ f, SameFeed (s.feed f) (t.feed f)
  level : t.battery.level = s.battery.level
  count : s.battery.count < 4 → t.battery.count < 4

variable {s t u : State}

theorem SameRest.refl (s : State) : SameRest s s := ⟨rfl, rfl, fun _ => .refl _, fun _ => .refl _, rfl, id⟩

theorem SameRest.trans (h : SameRest s t) (k : SameRest t u) : SameRest s u where
  phase := k.phase.trans h.phase
  patterns := k.patterns.trans h.patterns
  lines l := (h.lines l).trans (k.lines l)
  feeds f := ⟨(k.feeds f).capacity.trans (h.feeds f).capacity, (k.feeds f).state.trans (h.feeds f).state,
    (k.feeds f).runs ∘ (h.feeds f).runs⟩
  level := k.level.trans h.level
  count := k.count ∘ h.count

/-- The fields that the promises of the pool read, besides the jobs and the reverts, are the same. -/
theorem SameRest.of_eq (hp : t.phase = s.phase) (hk : t.patterns = s.patterns) (hl : t.lines = s.lines)
    (hf : t.feeds = s.feeds) (hb : t.battery = s.battery) : SameRest s t :=
  ⟨hp, hk, fun l => by rw [State.line_congr hl]; exact .refl _, fun f => by rw [State.feed_congr hf]; exact .refl _,
    by rw [hb], by rw [hb]; exact id⟩

theorem SameRest.modLine (s : State) (l : Fin 32) (g : Line → Line) (hg : SameLine (s.line l) (g (s.line l))) :
    SameRest s (s.modLine l g) := by
  refine ⟨rfl, rfl, fun k => ?_, fun f => .refl _, rfl, id⟩
  rw [State.modLine_line]
  split
  · next h => exact h ▸ hg
  · exact .refl _

theorem SameRest.modFeed (s : State) (f : Feed) (g : FeedRecord → FeedRecord)
    (hg : SameFeed (s.feed f) (g (s.feed f))) : SameRest s (s.modFeed f g) := by
  refine ⟨rfl, rfl, fun l => .refl _, fun k => ?_, rfl, id⟩
  by_cases h : k = f
  · subst h; rw [State.modFeed_feed_self]; exact hg
  · rw [State.modFeed_feed_other s g h]; exact .refl _

/-- Neither the pool and the table nor what their promises read beside them has changed. -/
structure Quiet (s t : State) : Prop extends SameRest s t where
  jobs : t.jobs = s.jobs
  reverts : t.reverts = s.reverts

theorem Quiet.refl (s : State) : Quiet s s := ⟨.refl s, rfl, rfl⟩

theorem Quiet.trans (h : Quiet s t) (k : Quiet t u) : Quiet s u :=
  ⟨h.toSameRest.trans k.toSameRest, k.jobs.trans h.jobs, k.reverts.trans h.reverts⟩

/-- A walk of quiet steps is quiet. -/
theorem Quiet.foldl {α : Type} (f : State → α → State) (h : ∀ s x, Quiet s (f s x)) (xs : List α) (s : State) :
    Quiet s (xs.foldl f s) :=
  foldl_induction (P := Quiet s) f xs s (.refl s) fun c x hc => hc.trans (h c x)

/-- The fields that the promises of the pool read are the same. -/
theorem Quiet.of_eq (hj : t.jobs = s.jobs) (hr : t.reverts = s.reverts) (hp : t.phase = s.phase)
    (hk : t.patterns = s.patterns) (hl : t.lines = s.lines) (hf : t.feeds = s.feeds) (hb : t.battery = s.battery) :
    Quiet s t := ⟨.of_eq hp hk hl hf hb, hj, hr⟩

theorem Quiet.modLine (s : State) (l : Fin 32) (g : Line → Line) (hg : SameLine (s.line l) (g (s.line l))) :
    Quiet s (s.modLine l g) := ⟨.modLine s l g hg, rfl, rfl⟩

theorem Quiet.modFeed (s : State) (f : Feed) (g : FeedRecord → FeedRecord)
    (hg : SameFeed (s.feed f) (g (s.feed f))) : Quiet s (s.modFeed f g) := ⟨.modFeed s f g hg, rfl, rfl⟩

/-! ### Operations on ports, events and faults -/

theorem Quiet.modPort (s : State) (p : Port) (g : PortRecord → PortRecord) : Quiet s (s.modPort p g) :=
  .of_eq rfl rfl rfl rfl rfl rfl rfl

theorem Quiet.flush (s : State) (p : Port) : Quiet s (s.flush p) := .modPort s p _

theorem Quiet.enqueue (s : State) (p : Port) (e : Event) : Quiet s (s.enqueue p e) := .modPort s p _

theorem Quiet.postAll (s : State) (e : Event) : Quiet s (s.postAll e) := by apply Quiet.of_eq <;> simp

theorem Quiet.postOwner (s : State) (l : Fin 32) (e : Event) : Quiet s (s.postOwner l e) := by
  apply Quiet.of_eq <;> simp

theorem Quiet.capture (s : State) (k : FaultKind) (f : Option Feed) (l : Option (Fin 32)) :
    Quiet s (s.capture k f l) := by
  apply Quiet.of_eq <;> simp

theorem Quiet.abandonOrigination (s : State) (l : Fin 32) : Quiet s (s.abandonOrigination l) := by
  apply Quiet.of_eq <;> simp

theorem Quiet.raiseOrigination (s : State) (l : Fin 32) : Quiet s (s.raiseOrigination l) :=
  (Quiet.modLine s l (fun x => { x with serial := x.serial + 1 }) (.of_eq rfl rfl rfl)).trans
    (by apply Quiet.of_eq <;> simp [State.raiseOrigination])

theorem Quiet.answer (s : State) (p : Port) (tag kind : Byte) (args : List Byte) (st : Status) (payload : List Byte) :
    Quiet s (s.answer p tag kind args st payload) := .modPort s p _

theorem Quiet.setService (s : State) (p : Port) (v : Service) : Quiet s (s.setService p v) := by
  apply Quiet.of_eq <;> simp

/-! ### Operations on a line -/

theorem Quiet.cutDrive (s : State) (l : Fin 32) : Quiet s (s.cutDrive l) := .modLine s l _ (.of_eq rfl rfl rfl)

/-- The runs right after a restart or a disabling (R89, R90). -/
theorem runsOfLine_restarted (x : Line) {v : Supervision} (hv : v = .onHook ∨ v = .unscanned) :
    RunsOfLine { x with supervision := v, parked := false, scan := .reset } := by
  rcases hv with rfl | rfl <;> simp [RunsOfLine, Scan.reset]

theorem Quiet.restartLine (s : State) (l : Fin 32) : Quiet s (s.restartLine l) :=
  (Quiet.modLine s l (fun x => { x with supervision := .onHook, parked := false, scan := .reset })
    ⟨rfl, rfl, rfl, fun _ => runsOfLine_restarted _ (.inl rfl)⟩).trans (.of_eq rfl rfl rfl rfl rfl rfl rfl)

theorem Quiet.disableLine (s : State) (l : Fin 32) : Quiet s (s.disableLine l) :=
  (Quiet.modLine s l (fun x => { x with supervision := .unscanned, parked := false, scan := .reset })
    ⟨rfl, rfl, rfl, fun _ => runsOfLine_restarted _ (.inr rfl)⟩).trans (.of_eq rfl rfl rfl rfl rfl rfl rfl)

theorem Quiet.restartIfEnabled (s : State) (l : Fin 32) : Quiet s (s.restartIfEnabled l) := by
  unfold State.restartIfEnabled
  split
  · exact .restartLine s l
  · exact .refl s

theorem Quiet.makeFinding (s : State) (l : Fin 32) (k : FindingKind) : Quiet s (s.makeFinding l k) :=
  .of_eq rfl rfl rfl rfl rfl rfl rfl

theorem Quiet.takeFinding (s : State) (l : Fin 32) : Quiet s (s.takeFinding l) := .of_eq rfl rfl rfl rfl rfl rfl rfl

/-! ### Bursts (R57) -/

theorem Quiet.noteBurst (s : State) (f : Feed) (l : Fin 32) (y : Fin 8) : Quiet s (s.noteBurst f l y) := by
  refine .modFeed s f _ ?_
  split
  · exact .refl _
  · exact ⟨rfl, rfl, id⟩

theorem Quiet.burstStep (s : State) (l : Fin 32) : Quiet s (s.burstStep l) := by
  unfold State.burstStep
  split
  · exact .refl s
  · next j _ =>
    split
    · split
      · unfold State.startBurst
        split
        · exact (Quiet.modLine s l _ (.of_eq rfl rfl rfl)).trans (.noteBurst _ _ l j.party)
        · exact .refl s
      · exact .refl s
    · exact .cutDrive s l

theorem Quiet.postProgress (s : State) (l : Fin 32) (j : Job) : Quiet s (s.postProgress l j) := by
  unfold State.postProgress
  split
  · exact .postOwner s l _
  · exact .refl s

/-! ### One sample of a line (R74) -/

/-- The run count that a supervision state admits (R75, R76). -/
def RunFits (v : Supervision) (n : Nat) : Prop :=
  match v with
  | .closing => 1 ≤ n ∧ n ≤ 5
  | .opening => 1 ≤ n ∧ n ≤ 69
  | _ => n = 0

/-- The drive sample count that a drive view admits (R77). -/
def SamplesFit (v : DriveView) (n : Nat) : Prop :=
  match v with
  | .clear => n = 0
  | .burst => n ≤ 65535
  | .guard => n ≤ 9

theorem runsOfLine_iff {x : Line} :
    RunsOfLine x ↔ RunFits x.supervision x.scan.runCount ∧ SamplesFit x.scan.view x.scan.samples ∧
      x.scan.tripRun < 3 ∧ x.scan.mismatchRun < 5 := Iff.rfl

theorem Quiet.setSupervision (s : State) (l : Fin 32) {v : Supervision} {n : Nat} (h : RunFits v n) :
    Quiet s (s.setSupervision l v n) :=
  .modLine s l _ ⟨rfl, rfl, rfl, fun hx => ⟨h, hx.2⟩⟩

theorem Quiet.setOnHook (s : State) (l : Fin 32) : Quiet s (s.setSupervision l .onHook 0) := .setSupervision s l rfl

theorem Quiet.setOffHook (s : State) (l : Fin 32) : Quiet s (s.setSupervision l .offHook 0) := .setSupervision s l rfl

/-- The drive view table keeps the sample count of each view in its range (R77). -/
theorem nextView_fits (b : Bool) {c : Scan} (h : SamplesFit c.view c.samples) (ht : c.tripRun < 3) :
    SamplesFit (nextView b c).view (nextView b c).samples ∧ (nextView b c).tripRun < 3 := by
  unfold nextView
  split
  · exact ⟨h, ht⟩
  · exact ⟨Nat.zero_le _, by simp⟩
  · next hv => exact ⟨by simp [SamplesFit, hv], ht⟩
  · exact ⟨Nat.zero_le _, by simp⟩
  · next hv =>
    split
    · next hn => exact ⟨by simpa only [SamplesFit, hv] using Nat.succ_le_of_lt hn, ht⟩
    · exact ⟨rfl, ht⟩
  · exact ⟨Nat.zero_le _, by simp⟩

/-- The drive view leaves the run count and the mismatch run alone. -/
theorem nextView_runs (b : Bool) (c : Scan) :
    (nextView b c).runCount = c.runCount ∧ (nextView b c).mismatchRun = c.mismatchRun := by
  unfold nextView
  split <;> try split
  all_goals exact ⟨rfl, rfl⟩

theorem Quiet.viewStep (s : State) (l : Fin 32) : Quiet s (s.viewStep l) := by
  refine .modLine s l (fun x => { x with scan := nextView (s.line l).drive.isSome x.scan })
    ⟨rfl, rfl, rfl, fun hx => ?_⟩
  obtain ⟨hr, hv, ht, hm⟩ := runsOfLine_iff.1 hx
  obtain ⟨hv', ht'⟩ := nextView_fits (s.line l).drive.isSome hv ht
  obtain ⟨er, em⟩ := nextView_runs (s.line l).drive.isSome (s.line l).scan
  exact runsOfLine_iff.2 ⟨er.symm ▸ hr, hv', ht', em.symm ▸ hm⟩

theorem Quiet.setMismatchRun (s : State) (l : Fin 32) {g : Scan → Nat} (h : g (s.line l).scan < 5) :
    Quiet s (s.modScan l fun c => { c with mismatchRun := g c }) :=
  .modLine s l _ ⟨rfl, rfl, rfl, fun ⟨hr, hv, ht, _⟩ => ⟨hr, hv, ht, h⟩⟩

theorem Quiet.setTripRun (s : State) (l : Fin 32) {g : Scan → Nat} (h : g (s.line l).scan < 3) :
    Quiet s (s.modScan l fun c => { c with tripRun := g c }) :=
  .modLine s l _ ⟨rfl, rfl, rfl, fun ⟨hr, hv, _, hm⟩ => ⟨hr, hv, h, hm⟩⟩

theorem Quiet.tripStep (s : State) (i : LineInput) : Quiet s (s.tripStep i) := by
  unfold State.tripStep
  dsimp only
  split
  · exact .setTripRun s i.line (g := fun _ => 0) (by omega)
  · split
    · next h => exact .setTripRun s i.line (g := fun c => c.tripRun + 1) h
    · refine Quiet.trans (.modLine s i.line _ ⟨rfl, rfl, rfl, ?_⟩) (.makeFinding _ _ _)
      exact fun ⟨_, hv, _, hm⟩ => ⟨rfl, hv, by simp, hm⟩

theorem Quiet.failClosure (s : State) (l : Fin 32) : Quiet s (s.failClosure l) := by
  have h : Quiet s ((s.setSupervision l .onHook 0).modLine l fun x => { x with parked := false }) :=
    (Quiet.setOnHook s l).trans (.modLine _ l _ (.of_eq rfl rfl rfl))
  unfold State.failClosure
  dsimp only
  split
  · exact h.trans (.of_eq rfl rfl rfl rfl rfl rfl rfl)
  · exact h

theorem Quiet.loopStep (s : State) (i : LineInput) : Quiet s (s.loopStep i) := by
  unfold State.loopStep
  dsimp only
  split
  · exact .refl s
  · exact .refl s
  · exact .setSupervision s _ ⟨by omega, by omega⟩
  · split
    · next h => exact .setSupervision s _ ⟨by omega, by omega⟩
    · exact (Quiet.setOffHook s _).trans (.makeFinding _ _ _)
  · exact .failClosure s _
  · exact .refl s
  · exact .setSupervision s _ ⟨by omega, by omega⟩
  · split
    · next h => exact .setSupervision s _ ⟨by omega, by omega⟩
    · exact (Quiet.setOnHook s _).trans (.makeFinding _ _ _)
  · split
    · exact .setOffHook s _
    · exact (Quiet.setOffHook s _).trans (.makeFinding _ _ _)

theorem Quiet.senseStep (s : State) (i : LineInput) : Quiet s (s.senseStep i) := by
  unfold State.senseStep
  split
  · exact .tripStep s i
  · exact .loopStep s i
  · exact .refl s

/-! ### Endings (R71, R109) -/

/-- An ending changes nothing beside the pool and the table but the line's drive, binding and parked flag. -/
theorem SameRest.endCall (s : State) (l : Fin 32) (e : Ending) (b : Bool) : SameRest s (s.endCall l e b) := by
  refine ⟨by simp, by simp, fun k => ?_, fun f => by rw [State.feed_congr (State.endCall_feeds s l e b)]; exact .refl _,
    by simp, by simp⟩
  rw [State.endCall_line]
  split
  · next h => subst h; cases b <;> exact .of_eq rfl rfl rfl
  · exact .refl _

/-- Changing a line's job leaves the jobs of the other lines. -/
theorem State.modJob_otherJobs (s : State) (l : Fin 32) (g : Job → Job) (hg : ∀ j, (g j).line = j.line) :
    ((s.modJob l g).jobs.filter fun j => j.line != l) = s.jobs.filter fun j => j.line != l := by
  simp only [State.modJob]
  induction s.jobs with
  | nil => rfl
  | cons j js ih =>
    by_cases h : j.line = l
    · simp [h, hg, ih]
    · simp [h, ih]

theorem State.modRevert_otherReverts (s : State) (l : Fin 32) (g : Revert → Revert) (hg : ∀ r, (g r).line = r.line) :
    ((s.modRevert l g).reverts.filter fun r => r.line != l) = s.reverts.filter fun r => r.line != l := by
  simp only [State.modRevert]
  induction s.reverts with
  | nil => rfl
  | cons r rs ih =>
    by_cases h : r.line = l
    · simp [h, hg, ih]
    · simp [h, ih]

end Sys2Proof.Machine
end

section
/-! PROOFS. What the changes of the pool keep, every command taken in RUN keeps: the argument once for every property of
the part. -/

namespace Sys2Proof.Machine

/-! ### Shedding (R40, R41) -/

/-- A shed job stays on a feed (R41, R124). -/
theorem State.shedJob_current {s : State} {j : Job} (h : j.current.isSome = true) :
    (s.shedJob j).current.isSome = true := by
  simp only [State.shedJob]
  split
  · split
    · rfl
    · exact h
  · exact h

/-- The victim among candidates is one of them. -/
theorem foldl_laterVictim_mem {xs : List Job} {b : Option Job} {j : Job} (h : xs.foldl laterVictim b = some j) :
    j ∈ xs ∨ b = some j := by
  induction xs generalizing b with
  | nil => exact .inr h
  | cons x xs ih =>
    rcases ih h with hm | hb
    · exact .inl (List.mem_cons_of_mem _ hm)
    · unfold laterVictim at hb
      split at hb
      · cases hb; exact .inl (by simp)
      · split at hb
        · cases hb; exact .inl (by simp)
        · exact .inr hb

/-- The victim is a candidate in the pool (R40 step 2). -/
theorem State.victim_mem {s : State} {f : Feed} {j : Job} (h : s.victim f = some j) :
    j ∈ s.jobs ∧ s.shedCandidate f j = true := by
  rcases foldl_laterVictim_mem h with hm | hb
  · exact List.mem_filter.1 hm
  · cases hb

/-- A property that every change of the pool keeps; the jobs it admits are one for a line and hold what their states
say. -/
structure KeptByChange (P : State → Prop) : Prop where
  lines : ∀ {s}, P s → (s.jobs.map (·.line)).Nodup
  shaped : ∀ {s}, P s → JobsShaped s
  change : ∀ {s t}, P s → SameRest s t → PoolChange s t.jobs t.reverts → P t

namespace KeptByChange

variable {P : State → Prop} (K : KeptByChange P) {s t : State}
include K

/-! ### One change -/

theorem quiet (hs : P s) (h : Quiet s t) : P t := by
  refine K.change hs h.toSameRest ?_
  rw [h.jobs, h.reverts]
  exact .none

/-- A line's jobs changed alone. -/
theorem modJobs {l : Fin 32} {g : Job → Job} (hs : P s) (hg : ∀ j ∈ s.jobs, j.line = l → JobChange s j (g j)) :
    P (s.modJob l g) :=
  K.change hs (.of_eq rfl rfl rfl rfl rfl) (.modJobs hg)

/-- The job of a line is the only one for it. -/
theorem job_unique {l : Fin 32} {j i : Job} (hs : P s) (hj : s.job? l = some j) (hi : i ∈ s.jobs) (hl : i.line = l) :
    i = j := by
  have e := (State.job?_eq_some_iff (K.lines hs)).2 ⟨hi, hl⟩
  rw [hj] at e
  exact (Option.some.inj e).symm

/-- A job changed alone. -/
theorem modJob {l : Fin 32} {j : Job} {g : Job → Job} (hs : P s) (hj : s.job? l = some j) (hg : JobChange s j (g j)) :
    P (s.modJob l g) :=
  K.modJobs hs fun i hi hl => by rw [K.job_unique hs hj hi hl]; exact hg

/-! ### Placement passes (R38, R54) -/

theorem tryPlace (l : Fin 32) (hs : P s) : P (s.tryPlace l) := by
  rcases s.tryPlace_cases l with e | ⟨j, f, k, n, ph, hj, hw, hg, hf, hk, hn, hfit, e⟩
  · rw [e]; exact hs
  · rw [e]; exact K.change hs (.of_eq rfl rfl rfl rfl rfl) (.place hj hw hg hf hk hn hfit)

theorem pass (hs : P s) : P s.pass := s.pass_induction hs fun _ l ht => K.tryPlace l ht

theorem passIf (b : Bool) (hs : P s) : P (s.passIf b) := by
  cases b
  · exact hs
  · exact K.pass hs

/-! ### Jobs moved and shed (R40 to R42, R120) -/

theorem moveOff (l : Fin 32) (hs : P s) : P (s.moveOff l) :=
  K.quiet (K.modJobs hs fun _ _ _ => .moved) (.cutDrive _ l)

theorem shed {l : Fin 32} (hs : P s) (hl : ∀ j ∈ s.jobs, j.line = l → j.current.isSome = true) : P (s.shed l) :=
  K.quiet (K.modJobs hs fun j hj e => .shed fun _ => hl j hj e) (.cutDrive _ l)

theorem shedLoop (f : Feed) (n : Nat) (hs : P s) : P (s.shedLoop f n) := by
  induction n generalizing s with
  | zero => exact hs
  | succ n ih =>
    unfold State.shedLoop
    split
    · exact hs
    · next j hj =>
      obtain ⟨hm, hc⟩ := State.victim_mem hj
      refine ih (K.shed hs fun i hi hl => ?_)
      have e := K.job_unique hs ((State.job?_eq_some_iff (K.lines hs)).2 ⟨hm, rfl⟩) hi hl
      simp only [State.shedCandidate, Bool.and_eq_true, beq_iff_eq] at hc
      simp [e, hc.1.2]

theorem shedFeed (f : Feed) (hs : P s) : P (s.shedFeed f) := K.shedLoop f _ hs

theorem shedAll (hs : P s) : P s.shedAll := foldl_induction _ _ _ hs fun _ f hu => K.shedFeed f hu

/-- Shedding the jobs of several lines, all of them on a feed. -/
theorem shedLines (ls : List (Fin 32)) (hs : P s) (hl : ∀ j ∈ s.jobs, j.line ∈ ls → j.current.isSome = true) :
    P (ls.foldl State.shed s) := by
  induction ls generalizing s with
  | nil => exact hs
  | cons l ls ih =>
    refine ih (K.shed hs fun j hj e => hl j hj (by simp [e])) fun j' hj' hm => ?_
    obtain ⟨j, hj, rfl⟩ := List.mem_map.1 hj'
    by_cases e : j.line = l
    · rw [if_pos e]
      exact State.shedJob_current (hl j hj (by simp [e]))
    · rw [if_neg e] at hm ⊢
      exact hl j hj (List.mem_cons_of_mem _ hm)

theorem shedLowClasses (hs : P s) : P s.shedLowClasses := by
  refine K.shedLines _ hs fun j hj hl => ?_
  obtain ⟨i, hi, e⟩ := List.mem_map.1 hl
  obtain ⟨hi, hp⟩ := List.mem_filter.1 hi
  simp only [Bool.and_eq_true] at hp
  rw [← List.inj_on_of_nodup_map (K.lines hs) hi hj e]
  exact current_isSome_of_placed (K.shaped hs i hi) hp.1

theorem scheduleLevel (old : Level) (hs : P s) : P (s.scheduleLevel old) := by
  unfold State.scheduleLevel
  split
  · exact K.pass (K.shedAll (K.shedLowClasses hs))
  · split
    · exact K.pass (K.shedAll hs)
    · exact K.pass hs
  · exact K.pass hs

end KeptByChange

/-- A property that the changes of the pool keep, and the few changes of what it reads beside the pool: a descriptor or
pattern written, a feed failed, recovered or written, a level change (R12, R26, R42, R43, R119, R121). -/
structure KeptInRun (P : State → Prop) : Prop extends KeptByChange P where
  descriptor : ∀ {s l} {d : Descriptor}, P s → s.hasRevert l = false → 1 ≤ d.frameLimit → d.frameLimit ≤ 60 →
    P (s.modLine l fun x => { x with desc := d })
  pattern : ∀ {s k x}, P s → s.patternInUse k = false → P (s.setPattern k x)
  feedFails : ∀ {s f}, P s → P (s.failFeed f)
  feedGood : ∀ {s f}, P s → P (s.feedGood f)
  feedWritten : ∀ {s f n c b}, P s → P (s.writeFeed f n c b)
  level : ∀ {s v}, P s →
    P ({ s with battery := { s.battery.clearRun with level := v } }.scheduleLevel s.battery.level)

namespace KeptInRun

variable {P : State → Prop} (K : KeptInRun P) {s t : State}
include K

/-! ### Endings (R71, R109) -/

/-- The work of a line ends from a state that differs in that work alone (R71, R109). -/
theorem endCallFrom {u : State} {l : Fin 32} (e : Ending) (b : Bool) (hs : P s) (h : SameRest s u)
    (hj : (u.jobs.filter fun j => j.line != l) = s.jobs.filter fun j => j.line != l)
    (hr : (u.reverts.filter fun r => r.line != l) = s.reverts.filter fun r => r.line != l) : P (u.endCall l e b) := by
  refine K.change hs (h.trans (.endCall u l e b)) ?_
  rw [State.endCall_jobs, State.endCall_reverts, hj, hr]
  exact .drop l

theorem endCall {l : Fin 32} (e : Ending) (b : Bool) (hs : P s) : P (s.endCall l e b) :=
  K.endCallFrom e b hs (.refl s) rfl rfl

theorem endCallAndPass {l : Fin 32} (e : Ending) (b : Bool) (hs : P s) : P (s.endCallAndPass l e b) :=
  K.passIf _ (K.endCall e b hs)

/-! ### The expiry (R60) -/

/-- A turn of a job that is not RESERVED (R103). -/
theorem takeTurn {l : Fin 32} {j : Job} (hs : P s) (hj : s.job? l = some j) (hv : j.state ≠ .reserved) :
    P (s.takeTurn l) := by
  unfold State.takeTurn
  split
  · exact hs
  · next r hr =>
    refine K.change hs (t := ((s.cutDrive l).modJob l (s.turnJob r)).modRevert l _) ?_ ?_
    · exact (Quiet.cutDrive s l).toSameRest.trans (.of_eq rfl rfl rfl rfl rfl)
    · refine PoolChange.map (s := s) (fun j => if j.line = l then s.turnJob r j else j)
        (fun r => if r.line = l then { r with state := flipRevert r.state } else r) (fun i hi => ?_) fun q _ => ?_
      · split
        · next hl =>
          obtain rfl := K.job_unique hs hj hi hl
          exact .turned _ _ hv ⟨r, State.revert?_mem hr, (State.revert?_line hr).trans hl.symm⟩
        · exact .same
      · split
        · exact .flipped
        · exact .same

/-- A frame end of a RINGING job (R59, R103, R123). -/
theorem frameEnd {l : Fin 32} {j : Job} (hs : P s) (hj : s.job? l = some j) (hv : j.state = .ringing) :
    P (s.frameEnd l).1 := by
  have ht : (s.modJob l fun j => { j with framesRung := j.framesRung + 1 }).job? l =
      some { j with framesRung := j.framesRung + 1 } := by
    rw [State.modJob_job? s l l (fun j => { j with framesRung := j.framesRung + 1 }) fun _ => rfl]
    simp [hj]
  unfold State.frameEnd
  dsimp only
  rw [ht]
  dsimp only
  split
  · exact K.endCallFrom _ _ hs (.of_eq rfl rfl rfl rfl rfl) (s.modJob_otherJobs l _ fun _ => rfl) rfl
  · next hlim =>
    have hc := K.modJob hs hj (g := fun j => { j with framesRung := j.framesRung + 1 }) (.frame hlim)
    set t := s.modJob l fun j => { j with framesRung := j.framesRung + 1 }
    set j₁ : Job := { j with framesRung := j.framesRung + 1 }
    have hq := Quiet.postProgress t l j₁
    have hu := K.quiet hc hq
    have hju : (t.postProgress l j₁).job? l = some j₁ := by rw [State.job?, hq.jobs]; exact ht
    split
    · exact K.takeTurn hu hju (by simp [j₁, hv])
    · split
      · next hd =>
        refine K.modJob (K.quiet hu (.cutDrive _ l)) hju
          (g := fun j => { j with state := .waiting, current := j.home, phase := none, waitTimer := 0 }) (.home hv ?_)
        unfold State.returnDue at hd
        split at hd
        · next h hh =>
          simp only [Bool.and_eq_true, beq_iff_eq] at hd
          exact ⟨h, hh, hd.2⟩
        · cases hd
      · exact K.quiet hu (.burstStep _ l)

theorem tickJob {a : State × Bool} (l : Fin 32) (ha : P a.1) : P (State.tickJob a l).1 := by
  unfold State.tickJob
  dsimp only
  split
  · exact ha
  · next j hj =>
    split
    · exact ha
    · split
      · next h =>
        exact K.quiet (K.modJob ha hj (g := fun j => { j with state := .ringing }) (.rings h.1)) (.burstStep _ l)
      · split
        · next h => exact K.frameEnd ha hj h.1
        · split
          · exact K.quiet ha (.burstStep _ l)
          · exact ha

theorem advanceWait {l : Fin 32} {j : Job} (hs : P s) (hj : s.job? l = some j) : P (s.advanceWait l j) := by
  unfold State.advanceWait
  dsimp only
  split
  · exact K.endCallFrom _ _ hs (.of_eq rfl rfl rfl rfl rfl) (s.modJob_otherJobs l _ fun _ => rfl) rfl
  · next h => exact K.modJob hs hj (g := fun j => { j with waitTimer := j.waitTimer + 1 }) (.waits h)

theorem advanceHangup {l : Fin 32} {r : Revert} (hs : P s)
    (hr : s.revert? l = some r) : P (s.advanceHangup l r) := by
  unfold State.advanceHangup
  dsimp only
  split
  · exact K.endCallFrom _ _ hs (.of_eq rfl rfl rfl rfl rfl) rfl (s.modRevert_otherReverts l _ fun _ => rfl)
  · next h =>
    refine K.change hs (.of_eq rfl rfl rfl rfl rfl) ?_
    have := PoolChange.map (s := s) id
      (fun r => if r.line = l then { r with hangupTimer := r.hangupTimer + 1 } else r) (fun _ _ => .same) fun q _ => ?_
    · simpa [State.modRevert] using this
    · split
      · next hl =>
        refine .waits fun e => ?_
        rw [hl, hr] at e
        cases e
        exact h
      · exact .same

theorem tickTimer (waiters : List (Fin 32)) (l : Fin 32) (hs : P s) : P (s.tickTimer waiters l) := by
  unfold State.tickTimer
  split
  · exact hs
  · next j hj =>
    split
    · split
      · next r hr =>
        split
        · exact K.advanceHangup hs hr
        · exact hs
      · exact hs
    · split
      · exact K.advanceWait hs hj
      · exact hs
    · split
      · exact K.advanceWait hs hj
      · exact hs
    · exact hs

theorem expiry (hs : P s) : P s.expiry := by
  have h0 : P s.advance := K.quiet hs (.of_eq rfl rfl rfl rfl rfl rfl rfl)
  have h1 : P s.advance.tickJobs.1 :=
    foldl_induction (P := fun a : State × Bool => P a.1) State.tickJob _ (s.advance, false) h0 fun a l ha =>
      K.tickJob l ha
  exact K.passIf _ (foldl_induction _ _ _ h1 fun u l hu => K.tickTimer _ l hu)

/-! ### The scanner and its findings (R74, R80 to R83, R88) -/

theorem takeRelayFault (l : Fin 32) (hs : P s) : P (s.takeRelayFault l) := by
  have ha : Quiet s (s.modLine l fun x => { x with desc := { x.desc with admin := .faulted }, drive := none }) :=
    .modLine s l _ ⟨rfl, rfl, rfl, id⟩
  have hend (b : State) (hb : P b) :
      P (if b.hasJob l || b.hasRevert l then b.endCallAndPass l .lineFault (b.endingReleases l .lineFault) else b) := by
    split
    · exact K.endCallAndPass _ _ hb
    · exact hb
  unfold State.takeRelayFault
  refine K.quiet (hend _ ?_) (.capture _ _ _ _)
  split
  · exact K.quiet hs (ha.trans (.abandonOrigination _ l))
  · exact K.quiet hs ha

theorem readbackStep (i : LineInput) (hs : P s) : P (s.readbackStep i) := by
  unfold State.readbackStep
  dsimp only
  split
  · exact hs
  · split
    · exact K.quiet hs (.setMismatchRun s _ (g := fun _ => 0) (by omega))
    · split
      · next h => exact K.quiet hs (.setMismatchRun s _ (g := fun c => c.mismatchRun + 1) h)
      · exact K.takeRelayFault _ (K.quiet hs (.setMismatchRun s _ (g := fun _ => 0) (by omega)))

theorem sampleLine (i : LineInput) (hs : P s) : P (s.sampleLine i) := by
  unfold State.sampleLine
  split
  · exact hs
  · exact K.quiet (K.readbackStep i (K.quiet hs (.viewStep s _))) (.senseStep _ i)

theorem reportOffHook (l : Fin 32) (hs : P s) : P (s.reportOffHook l) := by
  unfold State.reportOffHook
  split
  · exact K.quiet hs (.postOwner s l _)
  · split
    · exact K.quiet hs (.raiseOrigination s l)
    · exact hs

theorem takeOffHook (l : Fin 32) (hs : P s) : P (s.takeOffHook l) := by
  unfold State.takeOffHook
  split
  · split
    · exact hs
    · exact K.endCallAndPass _ _ hs
  · split
    · split
      · exact K.endCallAndPass _ _ hs
      · exact hs
      · exact K.endCallAndPass _ _ hs
    · exact K.reportOffHook l hs

theorem startRevertRinging {l : Fin 32} {r : Revert} (hs : P s) (hr : s.revert? l = some r) :
    P (s.startRevertRinging l r) := by
  have h : P ((s.modRevert l fun r => { r with state := .ringingCalled }).modJob l (s.takeStation r.called)) :=
    K.change hs (.of_eq rfl rfl rfl rfl rfl) (.hangUp hr)
  exact K.quiet (K.pass h) (.postOwner _ l _)

theorem reportOnHook (l : Fin 32) (hs : P s) : P (s.reportOnHook l) := by
  unfold State.reportOnHook
  split
  · exact K.quiet hs ((Quiet.postOwner s l _).trans (.modLine _ l _ (.of_eq rfl rfl rfl)))
  · split
    · exact K.quiet hs (.abandonOrigination s l)
    · exact hs

theorem takeOnHook (l : Fin 32) (hs : P s) : P (s.takeOnHook l) := by
  unfold State.takeOnHook
  refine K.quiet ?_ (.modLine _ l _ (.of_eq rfl rfl rfl))
  split
  · next r hr =>
    split
    · exact K.startRevertRinging hs hr
    · exact hs
  · exact K.reportOnHook l hs

theorem takeFlash (l : Fin 32) (n : Nat) (hs : P s) : P (s.takeFlash l n) := by
  unfold State.takeFlash
  split
  · exact hs
  · exact K.quiet hs (.postOwner s l _)

/-! ### The feed monitor and the battery monitor (R118, R121, R134, R135) -/

theorem recoverFeed (f : Feed) (hs : P s) : P (s.recoverFeed f) := by
  have hg : P (s.feedGood f) := K.feedGood hs
  have hu : P (if f = .fb then s.feedGood f
      else { s.feedGood f with jobs := (s.feedGood f).jobs.map (recoverJob f) }) := by
    split
    · exact hg
    · refine K.change hg (.of_eq rfl rfl rfl rfl rfl) ?_
      have h := PoolChange.map (s := s.feedGood f) (recoverJob f) id
        (fun j _ => .recovered f (by simp [State.feedGood])) fun _ _ => .same
      simpa using h
  exact K.quiet (K.pass hu) (.postAll _ _)

theorem sampleFeed (i : FeedInput) (hs : P s) : P (s.sampleFeed i) := by
  unfold State.sampleFeed
  dsimp only
  split
  · exact K.quiet hs (.modFeed s _ _ ⟨rfl, rfl, fun h => ⟨by simp, h.2⟩⟩)
  · split
    · next hn => exact K.quiet hs (.modFeed s _ _ ⟨rfl, rfl, fun h => ⟨hn, h.2⟩⟩)
    · exact K.feedFails hs
  · exact K.quiet hs (.modFeed s _ _ ⟨rfl, rfl, fun h => ⟨h.1, by simp⟩⟩)
  · split
    · next hn => exact K.quiet hs (.modFeed s _ _ ⟨rfl, rfl, fun h => ⟨h.1, hn⟩⟩)
    · exact K.recoverFeed _ hs

theorem changeLevel (v : Level) (hs : P s) : P (s.changeLevel v) := by
  unfold State.changeLevel
  dsimp only
  split
  · exact K.quiet (K.quiet (K.level hs) (.postAll _ _)) (.capture _ _ _ _)
  · exact K.quiet (K.level hs) (.postAll _ _)

theorem applyReading (n : Nat) (hs : P s) : P (s.applyReading n) := by
  unfold State.applyReading
  dsimp only
  split
  · exact K.quiet hs ⟨⟨rfl, rfl, fun _ => .refl _, fun _ => .refl _, rfl, fun _ => by simp [Battery.clearRun]⟩, rfl, rfl⟩
  · split
    · exact K.changeLevel _ hs
    · next hn =>
      refine K.quiet hs ⟨⟨rfl, rfl, fun _ => .refl _, fun _ => .refl _, ?_, fun _ => not_le.1 hn⟩, rfl, rfl⟩
      unfold Battery.extend
      split <;> rfl

end KeptInRun

end Sys2Proof.Machine
end

section
/-! PROOFS. Every command taken in RUN, and every command taken outside it: the arguments that the invariants of the pool
share (R161, R178). -/

namespace Sys2Proof.Machine

/-! ### Requests -/

theorem Quiet.openReply (p : Port) (s : State) : Quiet s (openReply p s).state := by
  unfold Machine.openReply
  have h : Quiet s (((s.flush p).setService p .inService).endTakenOver p) :=
    (Quiet.flush s p).trans ((Quiet.setService _ p _).trans (.of_eq rfl rfl rfl rfl rfl rfl rfl))
  exact h.trans (.foldl _ (fun u l => .enqueue u p _) _ _)

theorem Quiet.closeReply (p : Port) (s : State) : Quiet s (closeReply p s).state := by
  unfold Machine.closeReply
  split
  · exact .refl s
  · exact (Quiet.setService s p .outOfService).trans (.flush _ p)

theorem Quiet.claimReply (p : Port) (line serial : Byte) (s : State) : Quiet s (claimReply p line serial s).state := by
  unfold Machine.claimReply
  dsimp only
  split
  · exact .refl s
  · split
    · exact .refl s
    · split
      · exact .refl s
      · split
        · split <;> exact .refl s
        · split
          · exact .refl s
          · dsimp only
            exact .modLine s _ _ (.of_eq rfl rfl rfl)

theorem Quiet.releaseReply (p : Port) (line : Byte) (s : State) : Quiet s (releaseReply p line s).state := by
  unfold Machine.releaseReply
  dsimp only
  split
  · exact .refl s
  · split
    · exact .refl s
    · split
      · exact .refl s
      · split
        · exact .refl s
        · dsimp only
          exact .modLine s _ _ (.of_eq rfl rfl rfl)

theorem Quiet.writeStationReply (p : Port) (line party enabled home side pattern load selective guarded : Byte)
    (s : State) :
    Quiet s (writeStationReply p line party enabled home side pattern load selective guarded s).state := by
  unfold Machine.writeStationReply
  split
  · split
    · exact .refl s
    · split
      · exact .refl s
      · exact .of_eq rfl rfl rfl rfl rfl rfl rfl
  · exact .refl s

theorem Quiet.clearFeedFaultReply (feed : Byte) (s : State) : Quiet s (clearFeedFaultReply feed s).state := by
  unfold Machine.clearFeedFaultReply
  split
  · exact .refl s
  · dsimp only
    exact .modFeed s _ _ ⟨rfl, rfl, id⟩

theorem Quiet.forceSenseLossReply (feed value : Byte) (s : State) :
    Quiet s (forceSenseLossReply feed value s).state := by
  unfold Machine.forceSenseLossReply
  split
  · dsimp only
    exact .modFeed s _ _ ⟨rfl, rfl, id⟩
  · exact .refl s

theorem Quiet.fetchReply (p : Port) (s : State) : Quiet s (fetchReply p s).state := by
  dsimp only [Machine.fetchReply]
  exact .modPort s p _

theorem Quiet.saveReply (s : State) : Quiet s (saveReply s).state := by
  unfold Machine.saveReply
  split
  · exact .refl s
  · exact .of_eq rfl rfl rfl rfl rfl rfl rfl

/-- The status queries and the reads change nothing (R17, R18, R27, R129, R130, R164, R174). -/
theorem lineStatusReply_state (line : Byte) (s : State) : (lineStatusReply line s).state = s := by
  unfold lineStatusReply; split <;> rfl

theorem feedStatusReply_state (feed : Byte) (s : State) : (feedStatusReply feed s).state = s := by
  unfold feedStatusReply; split <;> rfl

theorem readLineReply_state (line : Byte) (s : State) : (readLineReply line s).state = s := by
  unfold readLineReply; split <;> rfl

theorem readStationReply_state (line party : Byte) (s : State) : (readStationReply line party s).state = s := by
  unfold readStationReply
  split
  · split <;> rfl
  · rfl

theorem readPatternReply_state (pattern : Byte) (s : State) : (readPatternReply pattern s).state = s := by
  unfold readPatternReply; split <;> rfl

theorem readFeedReply_state (feed : Byte) (s : State) : (readFeedReply feed s).state = s := by
  unfold readFeedReply; split <;> rfl

/-- An accepted RING finds a station, an idle line and room in the pool (R51). -/
theorem ringRefusal_none {p : Port} {l : Fin 32} {y : Fin 8} {s : State} (h : ringRefusal p l y s = none) :
    (stationIndex (s.line l).desc y).isSome = true ∧ s.hasJob l = false ∧ s.hasRevert l = false ∧
      s.jobs.length < 24 := by
  unfold ringRefusal at h
  split at h
  · cases h
  · next i hi =>
    simp only [hi]
    split at h; · cases h
    split at h; · cases h
    split at h; · cases h
    next hb =>
    split at h; · cases h
    split at h; · cases h
    next hp =>
    simp only [not_or, Bool.not_eq_true] at hb
    exact ⟨rfl, hb.1, hb.2, not_le.1 hp⟩

/-- An accepted REVERT finds both stations, an idle line and room in the table and the pool (R95). -/
theorem revertRefusal_none {p : Port} {l : Fin 32} {x y : Fin 8} {s : State} (h : revertRefusal p l x y s = none) :
    (stationIndex (s.line l).desc x).isSome = true ∧ (stationIndex (s.line l).desc y).isSome = true ∧
      s.hasJob l = false ∧ s.hasRevert l = false ∧ s.reverts.length < 8 ∧ s.jobs.length < 24 := by
  unfold revertRefusal at h
  split at h
  · next i k hi hk =>
    simp only [hi, hk]
    split at h; · cases h
    split at h; · cases h
    split at h; · cases h
    next hb =>
    split at h; · cases h
    split at h; · cases h
    split at h; · cases h
    next hr =>
    split at h; · cases h
    next hp =>
    simp only [not_or, Bool.not_eq_true] at hb
    exact ⟨rfl, rfl, hb.1, hb.2, not_le.1 hr, not_le.1 hp⟩
  · cases h

/-- An accepted WRITE_LINE finds neither job nor revert on the line (R11). -/
theorem writeLineRefusal_none {p : Port} {l : Fin 32} {d : Descriptor} {s : State}
    (h : writeLineRefusal p l d s = none) : s.hasJob l = false ∧ s.hasRevert l = false := by
  unfold writeLineRefusal at h
  split at h; · cases h
  split at h; · cases h
  split at h; · cases h
  split at h; · cases h
  next hb =>
  simp only [not_or, Bool.not_eq_true] at hb
  exact ⟨hb.2.1, hb.2.2⟩

/-- A descriptor that WRITE_LINE accepts has a default frame limit of 1 to 60 (R11). -/
theorem writtenDescriptor_limit {admin base count allowance limit guarded : Byte} {d : Descriptor}
    (h : writtenDescriptor admin base count allowance limit guarded = some d) :
    1 ≤ d.frameLimit ∧ d.frameLimit ≤ 60 := by
  unfold writtenDescriptor at h
  split at h
  · split at h
    · next hn =>
      cases h
      dsimp only [saturateLimit]
      omega
    · cases h
  · cases h

/-- An accepted WRITE_PATTERN finds the pattern in no use (R26). -/
theorem writePatternRefusal_none {k : Fin 16} {bursts : List Burst} {s : State}
    (h : writePatternRefusal k bursts s = none) : s.patternInUse k = false := by
  unfold writePatternRefusal at h
  split at h; · cases h
  split at h; · cases h
  next hb => simpa using hb

namespace KeptInRun

variable {P : State → Prop} (K : KeptInRun P) {s t : State}
include K

theorem request {k : Kind} {p : Port} {tag : Byte} {args : List Byte} {h : State → Reply} (hs : P s)
    (hh : P (h s).state) : P (Machine.request k p tag args h s) :=
  request_induction hs (fun _ _ _ hu => K.quiet hu (.answer _ _ _ _ _ _ _)) fun _ => hh

theorem takeoverReply (p : Port) (hs : P s) : P (takeoverReply p s).state := by
  unfold Machine.takeoverReply
  refine K.quiet (s := (s.noteTakeover (otherPlane p)).moveLines (otherPlane p) p) ?_
    ((Quiet.modPort _ _ _).trans (.setService _ _ _))
  have hn : Quiet s (s.noteTakeover (otherPlane p)) := by
    rw [State.noteTakeover_eq]
    exact .of_eq rfl rfl rfl rfl rfl rfl rfl
  generalize s.noteTakeover (otherPlane p) = u at hn ⊢
  have hu := K.quiet hs hn
  unfold State.moveLines
  dsimp only
  generalize (allLines.filter fun l => (u.line l).owner == some (otherPlane p)) = moved
  have hf : Quiet u (moved.foldl (fun u l => u.modLine l fun x => { x with owner := some p }) u) :=
    .foldl _ (fun v l => .modLine v l _ (.of_eq rfl rfl rfl)) _ _
  refine K.change hu (hf.toSameRest.trans (.of_eq rfl rfl rfl rfl rfl)) ?_
  dsimp only
  rw [hf.jobs, hf.reverts]
  refine .map _ _ (fun j _ => ?_) fun r _ => ?_
  · split
    · exact .reowned p
    · exact .same
  · split
    · exact .reowned p
    · exact .same

theorem ringReply (p : Port) (line party cls limit progress : Byte) (hs : P s) :
    P (ringReply p line party cls limit progress s).state := by
  unfold Machine.ringReply
  split
  · next l y notice _ _ _ =>
    split
    · exact hs
    · exact hs
    · split
      · exact hs
      · next hr =>
        obtain ⟨hi, hj, hv, hn⟩ := ringRefusal_none hr
        have hc (c : Fin 4) (b : Bool) :
            P (s.addJob (s.takeStation y (ringJob p l y c (clampLimit (s.line l).desc.frameLimit limit) b))) :=
          K.change hs (.of_eq rfl rfl rfl rfl rfl) (.ring hi hj hv hn)
        refine K.pass ?_
        split
        · exact K.quiet (hc _ _) (.modLine _ l _ (.of_eq rfl rfl rfl))
        · exact hc _ _
  · exact hs

theorem cancelRingReply (p : Port) (line : Byte) (hs : P s) : P (cancelRingReply p line s).state := by
  unfold Machine.cancelRingReply
  split
  · exact hs
  · split
    · exact hs
    · split
      · exact hs
      · split
        · exact hs
        · exact K.endCallAndPass _ _ hs

theorem promoteReply (p : Port) (line cls : Byte) (hs : P s) : P (promoteReply p line cls s).state := by
  unfold Machine.promoteReply
  split
  · exact hs
  · split
    · exact hs
    · next j hj =>
      split
      · exact hs
      · split
        · exact K.pass (K.modJob hs hj (g := fun j => { j with cls := max j.cls (planeClass cls) })
            (.raised _ (le_max_left _ _)))
        · exact hs

theorem setPolicyReply (policy : Byte) (hs : P s) : P (setPolicyReply policy s).state := by
  unfold Machine.setPolicyReply
  split
  · exact hs
  · split
    · exact hs
    · exact K.pass (K.quiet hs (.of_eq rfl rfl rfl rfl rfl rfl rfl))

theorem revertReply (p : Port) (line caller called ringCaller limit : Byte) (hs : P s) :
    P (revertReply p line caller called ringCaller limit s).state := by
  unfold Machine.revertReply
  split
  · next l x y rc _ _ _ _ =>
    split
    · exact hs
    · exact hs
    · split
      · exact hs
      · next hr =>
        obtain ⟨hi, hk, hj, hv, hm, hn⟩ := revertRefusal_none hr
        exact K.change hs (.of_eq rfl rfl rfl rfl rfl)
          (.reserve (r := {
            line := l, caller := x, called := y, ringCaller := rc, owner := p, state := .awaitHangup,
            hangupTimer := 0, frameLimit := clampLimit (s.line l).desc.frameLimit limit
          }) hi hk hj hv hn hm rfl rfl rfl)
  · exact hs

theorem revertAtPort (p : Port) (line caller called ringCaller limit : Byte) (hs : P s) :
    P (revertAtPort p line caller called ringCaller limit s).state := by
  rcases revertAtPort_cases p line caller called ringCaller limit s with ⟨st, e⟩ | e <;> rw [e]
  · exact hs
  · exact K.revertReply p line caller called ringCaller limit hs

theorem cancelRevertReply (p : Port) (line : Byte) (hs : P s) : P (cancelRevertReply p line s).state := by
  unfold Machine.cancelRevertReply
  split
  · exact hs
  · split
    · exact hs
    · split
      · exact hs
      · exact K.endCallAndPass _ _ hs

theorem writeLineReply (p : Port) (line admin base count allowance limit guarded : Byte) (hs : P s) :
    P (writeLineReply p line admin base count allowance limit guarded s).state := by
  unfold Machine.writeLineReply
  split
  · next l d _ hd =>
    split
    · exact hs
    · next hr =>
      obtain ⟨h1, h60⟩ := writtenDescriptor_limit hd
      have h := K.descriptor hs (writeLineRefusal_none hr).2 h1 h60
      refine K.quiet h ?_
      dsimp only [State.writeLine]
      unfold State.actOnAdmin
      split
      · exact .restartLine _ l
      · exact .restartLine _ l
      · split
        · exact (Quiet.abandonOrigination _ l).trans (.disableLine _ l)
        · exact .disableLine _ l
      · exact .disableLine _ l
      · exact .refl _
  · exact hs

theorem writePatternReply (pattern count on1 off1 on2 off2 on3 off3 on4 off4 : Byte) (hs : P s) :
    P (writePatternReply pattern count on1 off1 on2 off2 on3 off3 on4 off4 s).state := by
  unfold Machine.writePatternReply
  split
  · split
    · exact hs
    · next hr => exact K.pattern hs (writePatternRefusal_none hr)
  · exact hs

theorem writeFeedReply (feed freq : Byte) (capacity : BitVec 16) (fallback : Byte) (hs : P s) :
    P (writeFeedReply feed freq capacity fallback s).state := by
  unfold Machine.writeFeedReply
  split
  · split
    · exact hs
    · split
      · exact hs
      · exact K.feedWritten hs
  · exact hs

theorem resetLineReply (line : Byte) (hs : P s) : P (resetLineReply line s).state := by
  unfold Machine.resetLineReply
  split
  · exact hs
  · next l _ =>
    have ha : P (if s.hasJob l || s.hasRevert l then s.endCall l .lineReset false else s) := by
      split
      · exact K.endCall _ _ hs
      · exact hs
    have hb (u : State) : Quiet u (u.abandonIfOutstanding l) := by
      unfold State.abandonIfOutstanding
      split
      · exact .abandonOrigination u l
      · exact .refl u
    have hc (u : State) : Quiet u (u.modLine l clearedLine) := .modLine u l _ ⟨rfl, rfl, rfl, id⟩
    exact K.passIf _ (K.quiet ha ((hb _).trans ((hc _).trans (.restartIfEnabled _ l))))

end KeptInRun

end Sys2Proof.Machine
end

section
/-! PROOFS. The step, by the command it takes: in RUN what the changes of the pool keep, and outside RUN an idle part. -/

namespace Sys2Proof.Machine

/-! ### Resets (R178) -/

/-- What a reset leaves of the pool, the table, the findings and what the monitors count. -/
structure AfterReset (t : State) : Prop where
  jobs : t.jobs = []
  reverts : t.reverts = []
  findings : t.findings = []
  lines : t.lines = State.reset.lines
  feeds : t.feeds = State.reset.feeds
  battery : t.battery = State.reset.battery

theorem AfterReset.enterHold (s : State) : AfterReset s.enterHold := ⟨rfl, rfl, rfl, rfl, rfl, rfl⟩

/-- The emptied fault record and the cause set are nothing to what a reset leaves. -/
theorem AfterReset.congr {s t : State} (h : AfterReset s)
    (e : (t.jobs, t.reverts, t.findings, t.lines, t.feeds, t.battery) =
      (s.jobs, s.reverts, s.findings, s.lines, s.feeds, s.battery)) : AfterReset t := by
  simp only [Prod.mk.injEq] at e
  obtain ⟨e1, e2, e3, e4, e5, e6⟩ := e
  exact ⟨e1.trans h.jobs, e2.trans h.reverts, e3.trans h.findings, e4.trans h.lines, e5.trans h.feeds,
    e6.trans h.battery⟩

theorem runsOfLine_reset : RunsOfLine Line.reset := by simp [RunsOfLine, Line.reset, Scan.reset]

theorem runsOfFeed_reset : RunsOfFeed FeedRecord.reset := by simp [RunsOfFeed, FeedRecord.reset]

theorem line_of_replicate {s : State} {x : Line} (h : s.lines = Vector.replicate 32 x) (l : Fin 32) : s.line l = x := by
  simp [State.line, h, Vector.get_eq_getElem]

theorem feed_of_replicate {s : State} {x : FeedRecord} (h : s.feeds = Vector.replicate 5 x) (f : Feed) :
    s.feed f = x := by
  simp [State.feed, h, Vector.get_eq_getElem]

theorem AfterReset.runs {t : State} (h : AfterReset t) : RunsInRange t := by
  refine ⟨fun l => ?_, fun f => ?_, ?_⟩
  · rw [line_of_replicate h.lines]; exact runsOfLine_reset
  · rw [feed_of_replicate h.feeds]; exact runsOfFeed_reset
  · rw [h.battery]; decide

theorem SameRest.runsInRange {s t : State} (h : SameRest s t) (hr : RunsInRange s) : RunsInRange t :=
  ⟨fun l => (h.lines l).runs (hr.1 l), fun f => (h.feeds f).runs (hr.2.1 f), h.count hr.2.2⟩

/-! ### Commands taken in RUN -/

theorem Quiet.receiveByte (s : State) (p : Port) (b : Byte) (v : Bool) : Quiet s (s.receiveByte p b v) := by
  unfold State.receiveByte
  split
  · exact .refl s
  · split
    · exact .modPort s p _
    · dsimp only
      split
      · exact .modPort s p _
      · exact (Quiet.modPort s p _).trans (.modPort _ p _)

/-- The reference record is nothing to the promises of the pool. -/
theorem Quiet.setReference (s : State) (r : Reference) : Quiet s { s with reference := r } :=
  .of_eq rfl rfl rfl rfl rfl rfl rfl

theorem Quiet.loseReference (s : State) : Quiet s s.loseReference :=
  (Quiet.setReference s _).trans ((Quiet.postAll _ _).trans (.capture _ _ _ _))

theorem Quiet.restoreReference (s : State) : Quiet s s.restoreReference :=
  (Quiet.setReference s _).trans (.postAll _ _)

theorem Quiet.edgeWhileLost (s : State) (gap : Nat) : Quiet s (s.edgeWhileLost gap) := by
  unfold State.edgeWhileLost
  split
  · exact .of_eq rfl rfl rfl rfl rfl rfl rfl
  · split
    · exact .of_eq rfl rfl rfl rfl rfl rfl rfl
    · exact .restoreReference s

theorem Quiet.takeEdge (s : State) (gap : Nat) : Quiet s (s.takeEdge gap) := by
  unfold State.takeEdge
  split
  · split
    · exact .refl s
    · exact (Quiet.loseReference s).trans (.edgeWhileLost _ gap)
  · exact .edgeWhileLost s gap

theorem Quiet.completeSave (s : State) (v : SaveInFlight) (r : SaveReport) : Quiet s (s.completeSave v r) := by
  have h : Quiet s { s with image := v.final r, save := none } := .of_eq rfl rfl rfl rfl rfl rfl rfl
  unfold State.completeSave
  dsimp only
  split
  · exact h.trans (.enqueue _ _ _)
  · exact h.trans ((Quiet.enqueue _ _ _).trans (.capture _ _ _ _))

/-- A SAVE_DONE that completes changes the memory, the ports and the fault record alone, or nothing (R183). -/
theorem execSaveDone_quiet {r : SaveReport} {s t : State} (h : execSaveDone r s = .next t) : Quiet s t := by
  unfold execSaveDone at h
  split at h
  · cases h; exact .refl s
  · cases h
  · cases h; exact .completeSave s _ r

/-- A command that acts under a condition alone. -/
theorem guarded {P : State → Prop} {c : Prop} [Decidable c] {s u : State} (hs : P s) (hu : P u) :
    P (if c then u else s) := by
  split
  · exact hu
  · exact hs

/-- A property that the changes of the pool keep is kept by every command taken in RUN but a reset. -/
theorem KeptInRun.exec {P : State → Prop} (K : KeptInRun P) {c : Instr} {s t : State} (hs : P s) (hr : s.phase = .run)
    (h : exec c s = .next t) : P t ∨ AfterReset t := by
  cases c
  case openPlane p tag => cases h; exact .inl (K.request hs (K.quiet hs (.openReply p s)))
  case closePlane p tag => cases h; exact .inl (K.request hs (K.quiet hs (.closeReply p s)))
  case claim p tag line serial => cases h; exact .inl (K.request hs (K.quiet hs (.claimReply p line serial s)))
  case release p tag line => cases h; exact .inl (K.request hs (K.quiet hs (.releaseReply p line s)))
  case takeover p tag => cases h; exact .inl (K.request hs (K.takeoverReply p hs))
  case ring => cases h; exact .inl (K.request hs (K.ringReply _ _ _ _ _ _ hs))
  case cancelRing => cases h; exact .inl (K.request hs (K.cancelRingReply _ _ hs))
  case promote => cases h; exact .inl (K.request hs (K.promoteReply _ _ _ hs))
  case revert p tag line caller called ringCaller limit =>
    cases h
    rcases takeFrame_cases p tag Kind.revert.code [line, caller, called, ringCaller, limit]
      (Machine.revertAtPort p line caller called ringCaller limit) s with e | ⟨-, e⟩ | ⟨-, e⟩ <;> rw [e]
    · exact .inl hs
    · exact .inl (K.quiet hs (.answer _ _ _ _ _ _ _))
    · exact .inl (K.quiet (K.revertAtPort _ _ _ _ _ _ hs) (.answer _ _ _ _ _ _ _))
  case cancelRevert => cases h; exact .inl (K.request hs (K.cancelRevertReply _ _ hs))
  case setPolicy => cases h; exact .inl (K.request hs (K.setPolicyReply _ hs))
  case fetch p tag => cases h; exact .inl (K.request hs (K.quiet hs (.fetchReply p s)))
  case lineStatus p tag line => cases h; exact .inl (K.request hs (by rw [lineStatusReply_state]; exact hs))
  case feedStatus p tag feed => cases h; exact .inl (K.request hs (by rw [feedStatusReply_state]; exact hs))
  case portStatus p tag => cases h; exact .inl (K.request hs hs)
  case readLine p tag line => cases h; exact .inl (K.request hs (by rw [readLineReply_state]; exact hs))
  case readStation => cases h; exact .inl (K.request hs (by rw [readStationReply_state]; exact hs))
  case readPattern => cases h; exact .inl (K.request hs (by rw [readPatternReply_state]; exact hs))
  case readFeed => cases h; exact .inl (K.request hs (by rw [readFeedReply_state]; exact hs))
  case readFault => cases h; exact .inl (K.request hs hs)
  case writeLine => cases h; exact .inl (K.request hs (K.writeLineReply _ _ _ _ _ _ _ _ hs))
  case writeStation =>
    cases h; exact .inl (K.request hs (K.quiet hs (.writeStationReply _ _ _ _ _ _ _ _ _ _ s)))
  case writePattern => cases h; exact .inl (K.request hs (K.writePatternReply _ _ _ _ _ _ _ _ _ _ hs))
  case writeFeed => cases h; exact .inl (K.request hs (K.writeFeedReply _ _ _ _ hs))
  case resetLine => cases h; exact .inl (K.request hs (K.resetLineReply _ hs))
  case save => cases h; exact .inl (K.request hs (K.quiet hs (.saveReply s)))
  case reset => cases h; exact .inl (K.request hs (K.quiet hs (.of_eq rfl rfl rfl rfl rfl rfl rfl)))
  case clearFault => cases h; exact .inl (K.request hs (K.quiet hs (.of_eq rfl rfl rfl rfl rfl rfl rfl)))
  case clearFeedFault p tag feed => cases h; exact .inl (K.request hs (K.quiet hs (.clearFeedFaultReply feed s)))
  case forceSenseLoss => cases h; exact .inl (K.request hs (K.quiet hs (.forceSenseLossReply _ _ s)))
  case clearCause => cases h; exact .inl (K.request hs (K.quiet hs (.of_eq rfl rfl rfl rfl rfl rfl rfl)))
  case badRequest p tag kind args =>
    cases h
    refine .inl (guarded hs ?_)
    rcases takeFrame_cases p tag kind args (fun t => refuse t .badRequest) s with e | ⟨-, e⟩ | ⟨-, e⟩ <;> rw [e]
    · exact hs
    all_goals exact K.quiet hs (.answer _ _ _ _ _ _ _)
  case linkByteReceived p b v => cases h; exact .inl (K.quiet hs (.receiveByte s p b v))
  case byteGapTimeout p =>
    cases h
    refine .inl ?_
    split
    · exact hs
    · exact K.quiet hs (.modPort s p _)
  case responseSent p =>
    cases h
    refine .inl ?_
    split
    · exact hs
    · exact K.quiet hs (.of_eq rfl rfl rfl rfl rfl rfl rfl)
  case cadenceTick => cases h; exact .inl (guarded hs (K.expiry hs))
  case noAnswer => cases h; exact .inl (guarded hs (K.expiry hs))
  case waitExpired => cases h; exact .inl (guarded hs (K.expiry hs))
  case noHangup => cases h; exact .inl (guarded hs (K.expiry hs))
  case scannerSample inputs =>
    cases h; exact .inl (guarded hs (foldl_induction _ _ _ hs fun _ i hu => K.sampleLine i hu))
  case burstGuardEnd i => cases h; exact .inl (guarded hs (K.sampleLine i hs))
  case offHookFinding l =>
    cases h; exact .inl (guarded hs (K.takeOffHook l (K.quiet hs (.takeFinding s l))))
  case onHookFinding l => cases h; exact .inl (guarded hs (K.takeOnHook l (K.quiet hs (.takeFinding s l))))
  case flashFinding l =>
    cases h
    refine .inl ?_
    split
    · exact K.takeFlash l _ (K.quiet hs (.takeFinding s l))
    · exact hs
  case tripFinding l => cases h; exact .inl (guarded hs (K.takeOffHook l (K.quiet hs (.takeFinding s l))))
  case relayFault i => cases h; exact .inl (guarded hs (K.sampleLine i hs))
  case feedSample inputs =>
    cases h; exact .inl (guarded hs (foldl_induction _ _ _ hs fun _ i hu => K.sampleFeed i hu))
  case feedFail f => cases h; exact .inl (guarded hs (K.feedFails hs))
  case feedRecovery f => cases h; exact .inl (guarded hs (K.recoverFeed f hs))
  case fbRecovery => cases h; exact .inl (guarded hs (K.recoverFeed .fb hs))
  case batteryReading n => cases h; exact .inl (guarded hs (K.applyReading n hs))
  case batteryState n => cases h; exact .inl (guarded hs (K.applyReading n hs))
  case referenceLost => cases h; exact .inl (guarded hs (K.quiet hs (.loseReference s)))
  case referenceRestored gap => cases h; exact .inl (guarded hs (K.quiet hs (.restoreReference s)))
  case powerOnReset => cases h; exact .inr ((AfterReset.enterHold s).congr rfl)
  case supplyDip => cases h; exact .inr ((AfterReset.enterHold s).congr rfl)
  case resetPin => cases h; exact .inr ((AfterReset.enterHold s).congr rfl)
  case commandedReset =>
    cases h
    split
    · exact .inr ((AfterReset.enterHold s).congr rfl)
    · exact .inl hs
  case load silent => cases h; rw [if_neg (by simp [hr])]; exact .inl hs
  case run => cases h; rw [if_neg (by simp [hr])]; exact .inl hs
  case saveDone r => exact .inl (K.quiet hs (execSaveDone_quiet h))
  case referenceEdge gap => cases h; exact .inl (guarded hs (K.quiet hs (.takeEdge s gap)))

/-! ### Commands taken outside RUN -/

/-- No job, no revert and no finding (R178). -/
def Idle (s : State) : Prop := s.jobs = [] ∧ s.reverts = [] ∧ s.findings = []

/-- The part is idle after a command, and no run of a monitor has left its range. -/
def IdleAfter (s t : State) : Prop := Idle t ∧ (RunsInRange s → RunsInRange t)

theorem IdleAfter.refl {s : State} (h : Idle s) : IdleAfter s s := ⟨h, id⟩

theorem IdleAfter.of_quiet {s t : State} (hi : Idle s) (h : Quiet s t) (hf : t.findings = s.findings) :
    IdleAfter s t :=
  ⟨⟨h.jobs.trans hi.1, h.reverts.trans hi.2.1, hf.trans hi.2.2⟩, h.runsInRange⟩

theorem AfterReset.idleAfter {s t : State} (h : AfterReset t) : IdleAfter s t :=
  ⟨⟨h.jobs, h.reverts, h.findings⟩, fun _ => h.runs⟩

/-- Outside RUN a frame is discarded or answered NOT_READY (R161). -/
theorem IdleAfter.takeFrame {s : State} (hi : Idle s) (hr : s.phase ≠ .run) (p : Port) (tag kind : Byte)
    (args : List Byte) (h : State → Reply) : IdleAfter s (takeFrame p tag kind args h s) := by
  rcases takeFrame_cases p tag kind args h s with e | ⟨-, e⟩ | ⟨hp, -⟩
  · rw [e]; exact .refl hi
  · rw [e]; exact .of_quiet hi (.answer _ _ _ _ _ _ _) rfl
  · exact absurd hp hr

/-- With no finding waiting none is handed on. -/
theorem State.nextFinding_of_idle {s : State} (h : Idle s) (l : Fin 32) : s.nextFinding l = none := by
  simp [State.nextFinding, h.2.2]

/-- Once the image's lines are in the table every line is at its reset values but its descriptor, the feeds are at their
reset values, and there is no work where there was none (R180). -/
theorem loadLines_spec (s : State) (m : Memory) :
    let u := allLines.foldl (State.loadLine m) s.loadDefaults
    (∀ l, RunsOfLine (u.line l)) ∧ u.feeds = Vector.replicate 5 FeedRecord.reset ∧ u.battery = s.battery ∧
      (Idle s → Idle u) := by
  refine foldl_induction (P := fun u : State => (∀ l, RunsOfLine (u.line l)) ∧
    u.feeds = Vector.replicate 5 FeedRecord.reset ∧ u.battery = s.battery ∧ (Idle s → Idle u)) _ _ _
    ⟨fun l => by rw [line_of_replicate (x := Line.reset) rfl]; exact runsOfLine_reset, rfl, rfl, id⟩ ?_
  rintro u n ⟨hl, hf, hb, hi⟩
  unfold State.loadLine
  split
  · exact ⟨hl, hf, hb, hi⟩
  · split
    · exact ⟨hl, hf, hb, hi⟩
    · refine ⟨fun l => ?_, hf, hb, hi⟩
      rw [State.modLine_line]
      split
      · exact hl n
      · exact hl l

/-- LOAD of an image leaves an idle part idle and the monitors' runs in range (R180). -/
theorem loadImage_spec {s : State} (m : Memory) (flags : Byte) :
    (s.battery.count < 4 → RunsInRange (s.loadImage m flags)) ∧ (Idle s → Idle (s.loadImage m flags)) := by
  obtain ⟨hl, hf, hb, hi⟩ := loadLines_spec s m
  unfold State.loadImage
  dsimp only
  generalize allLines.foldl (State.loadLine m) s.loadDefaults = u at hl hf hb hi ⊢
  refine ⟨fun hc => ⟨fun l => ?_, fun f => ?_, hb ▸ hc⟩, fun h => ?_⟩
  · simpa only [State.line] using hl l
  · simp only [State.feed]
    split
    · simp [Vector.get_eq_getElem, readFeedRecord, FeedRecord.reset]
    · simp [Vector.get_eq_getElem, hf, FeedRecord.reset]
  · obtain ⟨h1, h2, h3⟩ := hi h
    exact ⟨h1, h2, h3⟩

theorem IdleAfter.load {s : State} (hi : Idle s) (silent : List Nat) : IdleAfter s (s.load silent) := by
  unfold State.load
  dsimp only
  split
  · unfold State.takeImage
    dsimp only
    split <;> exact ⟨(loadImage_spec _ _).2 hi, fun hr => (loadImage_spec _ _).1 hr.2.2⟩
  · refine ⟨?_, fun hr => ?_⟩
    · unfold State.captureInLoad
      split <;> exact hi
    · refine ⟨fun l => ?_, fun f => ?_, ?_⟩
      · rw [line_of_replicate (x := Line.reset)]
        · exact runsOfLine_reset
        · unfold State.captureInLoad; split <;> rfl
      · rw [feed_of_replicate (x := FeedRecord.reset)]
        · exact runsOfFeed_reset
        · unfold State.captureInLoad; split <;> rfl
      · have hb := hr.2.2
        unfold State.captureInLoad
        split <;> exact hb

/-- RUN restarts lines and posts events; no work begins with it (R181). -/
theorem IdleAfter.beginRun {s : State} (hi : Idle s) : IdleAfter s s.beginRun := by
  have h : IdleAfter s (allLines.foldl State.restartIfEnabled { s with phase := .run, pos := 0, stamp := 0 }) := by
    refine foldl_induction (P := IdleAfter s) _ _ _ ⟨hi, id⟩ fun u l hu => ?_
    have hq := Quiet.restartIfEnabled u l
    refine ⟨⟨hq.jobs.trans hu.1.1, hq.reverts.trans hu.1.2.1, ?_⟩, fun hr => hq.runsInRange (hu.2 hr)⟩
    unfold State.restartIfEnabled
    split
    · simp [State.restartLine, State.dropFindings, hu.1.2.2]
    · exact hu.1.2.2
  have hp (u : State) : Quiet u u.postHeldCapture ∧ u.postHeldCapture.findings = u.findings := by
    unfold State.postHeldCapture
    split
    · exact ⟨.of_eq rfl rfl rfl rfl rfl rfl rfl, rfl⟩
    · exact ⟨.refl u, rfl⟩
  unfold State.beginRun
  dsimp only
  generalize allLines.foldl State.restartIfEnabled { s with phase := .run, pos := 0, stamp := 0 } = u at h ⊢
  have he : IdleAfter u (u.enqueue .m u.startEvent) := .of_quiet h.1 (.enqueue _ _ _) rfl
  obtain ⟨hq, hf⟩ := hp (u.enqueue .m u.startEvent)
  have hc := IdleAfter.of_quiet he.1 hq hf
  exact ⟨hc.1, fun hr => hc.2 (he.2 (h.2 hr))⟩

theorem State.receiveByte_findings (s : State) (p : Port) (b : Byte) (v : Bool) :
    (s.receiveByte p b v).findings = s.findings := by
  unfold State.receiveByte
  split
  · rfl
  · split
    · rfl
    · dsimp only
      split <;> rfl

theorem State.completeSave_findings (s : State) (v : SaveInFlight) (r : SaveReport) :
    (s.completeSave v r).findings = s.findings := by
  unfold State.completeSave
  dsimp only
  split
  · rfl
  · rw [State.capture_findings]; rfl

/-- Every command taken outside RUN, where there is no work, leaves the part idle (R178). -/
theorem exec_outside_run {c : Instr} {s t : State} (hr : s.phase ≠ .run) (hi : Idle s) (h : exec c s = .next t) :
    IdleAfter s t := by
  cases c
  case linkByteReceived p b v => cases h; exact .of_quiet hi (.receiveByte s p b v) (s.receiveByte_findings p b v)
  case byteGapTimeout p =>
    cases h
    split
    · exact .refl hi
    · exact .of_quiet hi (.modPort s p _) rfl
  case responseSent p =>
    cases h
    split
    · exact .refl hi
    · exact .of_quiet hi (.of_eq rfl rfl rfl rfl rfl rfl rfl) rfl
  case badRequest p tag kind args =>
    cases h; exact guarded (.refl hi) (.takeFrame hi hr p tag kind args _)
  case offHookFinding l | onHookFinding l | tripFinding l =>
    cases h; rw [if_neg (by simp [s.nextFinding_of_idle hi])]; exact .refl hi
  case flashFinding l => cases h; rw [s.nextFinding_of_idle hi]; exact .refl hi
  case cadenceTick | scannerSample | feedSample | batteryReading | referenceEdge =>
    cases h; rw [if_neg hr]; exact .refl hi
  case noAnswer | waitExpired | noHangup | burstGuardEnd | relayFault | feedFail | feedRecovery | fbRecovery |
      batteryState | referenceLost | referenceRestored =>
    cases h; rw [if_neg fun hc => hr hc.1]; exact .refl hi
  case powerOnReset | supplyDip | resetPin =>
    cases h; exact ((AfterReset.enterHold s).congr rfl).idleAfter
  case commandedReset => cases h; exact guarded (.refl hi) ((AfterReset.enterHold s).congr rfl).idleAfter
  case load silent => cases h; exact guarded (.refl hi) (.load hi silent)
  case run => cases h; exact guarded (.refl hi) (.beginRun hi)
  case saveDone r =>
    have hq := execSaveDone_quiet h
    refine .of_quiet hi hq ?_
    simp only [exec, execSaveDone] at h
    split at h
    · cases h; rfl
    · cases h
    · cases h; exact s.completeSave_findings _ r
  all_goals cases h; exact .takeFrame hi hr _ _ _ _ _

/-! ### The step -/

/-- One step from a part that keeps what the changes of the pool keep: kept, or idle after a reset or outside RUN. -/
theorem KeptInRun.step {P : State → Prop} (K : KeptInRun P) {s t : State}
    (hs : ∀ rest, s.phase = .run → P { s with pending := rest }) (hw : WorkOnlyInRun s) (h : step s = .next t) :
    t = s ∨ (s.phase = .run ∧ P t) ∨ (Idle t ∧ (RunsInRange s → RunsInRange t)) := by
  unfold Machine.step at h
  split at h
  · cases h; exact .inl rfl
  · next c rest _ =>
    by_cases hr : s.phase = .run
    · rcases K.exec (hs rest hr) hr h with hp | ha
      · exact .inr (.inl ⟨hr, hp⟩)
      · exact .inr (.inr ⟨⟨ha.jobs, ha.reverts, ha.findings⟩, fun _ => ha.runs⟩)
    · exact .inr (.inr (exec_outside_run (s := { s with pending := rest }) hr (hw hr) h))

end Sys2Proof.Machine
end

section
/-! PROOFS. Every step keeps the pool and the revert table bounded, paired and in shape, and every count below its end. -/

namespace Sys2Proof.Machine

/-- What every command taken in RUN keeps of the work and the counts. -/
structure WorkInRun (s : State) : Prop where
  work : WorkOk s
  limits : LimitsInRange s
  runs : RunsInRange s
  phase : s.phase = .run

/-- The lines keep their ranges and limits, and the runs that the monitors count stay in range. -/
structure SameCounts (s t : State) : Prop where
  phase : t.phase = s.phase
  lines : ∀ l, SameLine (s.line l) (t.line l)
  feeds : ∀ f, RunsOfFeed (s.feed f) → RunsOfFeed (t.feed f)
  count : s.battery.count < 4 → t.battery.count < 4

theorem SameRest.sameCounts {s t : State} (h : SameRest s t) : SameCounts s t :=
  ⟨h.phase, h.lines, fun f => (h.feeds f).runs, h.count⟩

/-- A feed's record written with no run past its end. -/
theorem SameCounts.modFeed (s : State) (f : Feed) (g : FeedRecord → FeedRecord)
    (hg : RunsOfFeed (s.feed f) → RunsOfFeed (g (s.feed f))) : SameCounts s (s.modFeed f g) := by
  refine ⟨rfl, fun _ => .refl _, fun k => ?_, id⟩
  by_cases h : k = f
  · subst h; rw [State.modFeed_feed_self]; exact hg
  · rw [State.modFeed_feed_other s g h]; exact id

section
variable {s t : State}

theorem WorkInRun.change (h : WorkInRun s) (hr : SameCounts s t) (hc : PoolChange s t.jobs t.reverts) : WorkInRun t where
  work := h.work.change h.limits (fun l => ⟨(hr.lines l).base, (hr.lines l).count⟩) hc
  limits l := by rw [(hr.lines l).limit]; exact h.limits l
  runs := ⟨fun l => (hr.lines l).runs (h.runs.1 l), fun f => hr.feeds f (h.runs.2.1 f), hr.count h.runs.2.2⟩
  phase := hr.phase.trans h.phase

theorem WorkInRun.keptByChange : KeptByChange WorkInRun where
  lines h := h.work.pool.2
  shaped h := h.work.shaped
  change h hr hc := h.change hr.sameCounts hc

/-- A descriptor written on a line without a revert (R11). -/
theorem WorkInRun.descriptor {l : Fin 32} {d : Descriptor} (h : WorkInRun s) (hv : s.hasRevert l = false)
    (h1 : 1 ≤ d.frameLimit) (h60 : d.frameLimit ≤ 60) : WorkInRun (s.modLine l fun x => { x with desc := d }) where
  work := by
    obtain ⟨hp, ht, hpair, hst, hsh, hc⟩ := h.work
    refine ⟨hp, ht, hpair, fun r hr => ?_, hsh, hc⟩
    rw [State.modLine_line_other _ _ (State.hasRevert_eq_false.1 hv r hr)]
    exact hst r hr
  limits k := by
    rw [State.modLine_line]
    split
    · exact ⟨h1, h60⟩
    · exact h.limits k
  runs := by
    refine ⟨fun k => ?_, h.runs.2⟩
    rw [State.modLine_line]
    split
    · exact h.runs.1 l
    · exact h.runs.1 k
  phase := h.phase

/-- A failed feed's jobs are moved off it (R119, R120). -/
theorem WorkInRun.feedFails (f : Feed) (h : WorkInRun s) : WorkInRun (s.failFeed f) := by
  have K := WorkInRun.keptByChange
  have ht := h.change (.modFeed s f
    (fun x => { x with state := .failed, absentRun := 0, presentRun := 0, latch := true, frozen := true })
    fun _ => ⟨by simp, by simp⟩) .none
  exact K.quiet (K.passIf _ (foldl_induction _ _ _ ht fun _ l hu => K.moveOff l hu))
    ((Quiet.postAll _ _).trans (.capture _ _ _ _))

/-- A feed written is shed where its capacity fell, and a pass runs (R43). -/
theorem WorkInRun.feedWritten (f : Feed) (n c : Nat) (b : Bool) (h : WorkInRun s) : WorkInRun (s.writeFeed f n c b) := by
  have K := WorkInRun.keptByChange
  have ht := h.change (.modFeed s f
    (fun x => { x with freq := n, capacity := saturateCapacity f c, fallback := b }) id) .none
  refine K.pass ?_
  split
  · exact K.shedFeed f ht
  · exact ht

theorem WorkInRun.keptInRun : KeptInRun WorkInRun where
  toKeptByChange := WorkInRun.keptByChange
  descriptor h hv h1 h60 := h.descriptor hv h1 h60
  pattern h _ := ⟨⟨h.work.pool, h.work.table, h.work.paired, h.work.stations, h.work.shaped, h.work.counts⟩, h.limits,
    h.runs, h.phase⟩
  feedFails h := h.feedFails _
  feedGood h := h.change (.modFeed _ _ _ fun _ => ⟨by simp, by simp⟩) .none
  feedWritten h := h.feedWritten _ _ _ _
  level h := WorkInRun.keptByChange.scheduleLevel _
    (h.change ⟨rfl, fun _ => .refl _, fun _ => id, fun _ => by simp [Battery.clearRun]⟩ .none)

end

/-- Settles O56: each command taken in RUN is a chain of the changes of `PoolChange`, and each of them keeps the promises;
outside RUN and after a reset there is no work. -/
theorem stepKeepsJobsAndReverts : Obligations.StepKeepsJobsAndReverts := by
  rintro s t ⟨hpool, htable, hidle, hpaired, hstations, hshaped, hrecords, hcounts, hruns⟩ h
  have hwork : WorkOk s := workOk_iff.2 ⟨hpool, htable, hpaired, hstations, hshaped, hcounts⟩
  have hlimits : LimitsInRange s := fun l =>
    have ⟨_, _, h1, h60, _⟩ := hrecords.1 l
    ⟨h1, h60⟩
  have hend : WorkOk t ∧ WorkOnlyInRun t ∧ RunsInRange t := by
    rcases WorkInRun.keptInRun.step
        (fun rest hr => ⟨⟨hpool, htable, hwork.paired, hstations, hshaped, hwork.counts⟩, hlimits, hruns, hr⟩) hidle h with
      rfl | ⟨-, hp⟩ | ⟨⟨hj, hr, hf⟩, hn⟩
    · exact ⟨hwork, hidle, hruns⟩
    · exact ⟨hp.work, fun hne => absurd hp.phase hne, hp.runs⟩
    · exact ⟨.idle hj hr, fun _ => ⟨hj, hr, hf⟩, hn hruns⟩
  obtain ⟨hw, ho, hr⟩ := hend
  obtain ⟨h1, h2, h3, h4, h5, h6⟩ := workOk_iff.1 hw
  exact ⟨h1, h2, ho, h3, h4, h5, h6, hr⟩

end Sys2Proof.Machine
end

section
/-! PROOFS. The profile of a feed: what each change of the pool does to it (R35, R36), and that shedding ends with no
position overloaded (R40). -/

namespace Sys2Proof.Machine

variable {s t : State}

/-! ### The profile (R35) -/

/-- A job adds its load to a feed's profile where it holds a reservation there and rings at the position. -/
theorem State.loadAt_eq_zero {f : Feed} {x : Nat} {j : Job} (h : j.placed = false) : s.loadAt f x j = 0 := by
  simp [State.loadAt, h]

/-- A job that keeps its reservation, or has none, adds no more than before. -/
theorem State.loadAt_le {f : Feed} {x : Nat} {j j' : Job} (hp : t.patterns = s.patterns)
    (h : j'.placed = true → SameReservation j j') : t.loadAt f x j' ≤ s.loadAt f x j := by
  cases hj : j'.placed
  · rw [State.loadAt_eq_zero hj]; exact Nat.zero_le _
  · obtain ⟨h1, h2, h3, h4, h5, -⟩ := h hj
    simp [State.loadAt, State.jobTicks, State.pattern, hp, hj, h1, h2, h3, h4, h5]

/-- Jobs changed one by one without a new reservation add no more to any profile. -/
theorem State.profile_le_of_map {g : Job → Job} (hj : t.jobs = s.jobs.map g) (hp : t.patterns = s.patterns)
    (hg : ∀ j ∈ s.jobs, (g j).placed = true → SameReservation j (g j)) (f : Feed) (x : Nat) :
    t.profile f x ≤ s.profile f x := by
  rw [State.profile, State.profile, hj, List.map_map]
  exact List.sum_le_sum fun j hm => State.loadAt_le hp (hg j hm)

/-- What a job adds to a profile depends on the patterns alone. -/
theorem State.loadAt_congr (hp : t.patterns = s.patterns) (f : Feed) (x : Nat) : t.loadAt f x = s.loadAt f x := by
  funext j
  simp [State.loadAt, State.jobTicks, State.pattern, hp]

/-- Fewer jobs add no more to any profile. -/
theorem State.profile_le_of_sublist (hj : t.jobs.Sublist s.jobs) (hp : t.patterns = s.patterns) (f : Feed) (x : Nat) :
    t.profile f x ≤ s.profile f x := by
  rw [State.profile, State.profile, State.loadAt_congr hp]
  exact (hj.map _).sum_le_sum fun _ _ => Nat.zero_le _

/-- A job without a reservation adds nothing to any profile. -/
theorem State.profile_append {j : Job} (hj : t.jobs = s.jobs ++ [j]) (hn : j.placed = false)
    (hp : t.patterns = s.patterns) (f : Feed) (x : Nat) : t.profile f x = s.profile f x := by
  rw [State.profile, State.profile, State.loadAt_congr hp, hj]
  simp [State.loadAt_eq_zero hn]

/-- A job that had no reservation adds to a profile what it adds once it is changed. -/
theorem State.profile_replace {a b : List Job} {j j' : Job} (hs : s.jobs = a ++ j :: b) (ht : t.jobs = a ++ j' :: b)
    (hn : j.placed = false) (hp : t.patterns = s.patterns) (f : Feed) (x : Nat) :
    t.profile f x = s.profile f x + s.loadAt f x j' := by
  simp only [State.profile, State.loadAt_congr hp, hs, ht, List.map_append, List.map_cons, List.sum_append,
    List.sum_cons, State.loadAt_eq_zero hn]
  omega

/-- Where a line has one job, changing that job changes its entry in the pool alone. -/
theorem State.modJob_split {l : Fin 32} {j : Job} {g : Job → Job} (hn : (s.jobs.map (·.line)).Nodup)
    (hj : s.job? l = some j) :
    ∃ a b, s.jobs = a ++ j :: b ∧ (s.modJob l g).jobs = a ++ g j :: b := by
  obtain ⟨hm, hl⟩ := (State.job?_eq_some_iff hn).1 hj
  obtain ⟨a, b, e⟩ := List.append_of_mem hm
  refine ⟨a, b, e, ?_⟩
  have hother : ∀ i ∈ a ++ b, i.line ≠ l := by
    intro i hi he
    rw [e, List.map_append, List.map_cons, List.nodup_middle, List.nodup_cons, ← List.map_append] at hn
    exact hn.1 (List.mem_map.2 ⟨i, hi, he.trans hl.symm⟩)
  have hid : ∀ xs : List Job, (∀ i ∈ xs, i.line ≠ l) → (xs.map fun i => if i.line = l then g i else i) = xs :=
    fun xs h => (List.map_congr_left fun i hi => if_neg (h i hi)).trans (List.map_id' xs)
  simp only [State.modJob, e, List.map_append, List.map_cons, hl, if_true]
  rw [hid a fun i hi => hother i (List.mem_append_left _ hi), hid b fun i hi => hother i (List.mem_append_right _ hi)]

/-- The effective capacity of a feed follows from its capacity and the battery level (R34). -/
theorem State.effectiveCapacity_congr {f : Feed} (hf : (t.feed f).capacity = (s.feed f).capacity)
    (hb : t.battery.level = s.battery.level) : t.effectiveCapacity f = s.effectiveCapacity f := by
  rw [State.effectiveCapacity, State.effectiveCapacity, hf, hb]

/-- A job placed at a phase that fits its feed keeps every feed within its capacity (R36). -/
theorem WithinCapacity.place {l : Fin 32} {j : Job} {f : Feed} {k : Fin 16} {n : Nat} {ph : Fin 12}
    (h : WithinCapacity s) (hn : (s.jobs.map (·.line)).Nodup) (hj : s.job? l = some j) (hw : j.state = .waiting)
    (hf : j.current = some f) (hk : j.pattern = some k) (hl : j.load = some n)
    (hfit : s.fits f (s.pattern k) n ph = true) :
    WithinCapacity (s.modJob l fun j => { j with state := .placed, phase := some ph }) := by
  intro f' x
  obtain ⟨a, b, e1, e2⟩ := State.modJob_split (g := fun j => { j with state := .placed, phase := some ph }) hn hj
  rw [State.profile_replace e1 e2 (by simp [Job.placed, hw]) rfl]
  change _ ≤ s.effectiveCapacity f'
  by_cases hr : f' = f ∧ x.val ∈ absoluteOnSet (s.pattern k) ph
  · obtain ⟨rfl, hx⟩ := hr
    have hfit' := List.all_eq_true.1 hfit x.val hx
    rw [decide_eq_true_iff] at hfit'
    simpa [State.loadAt, Job.placed, State.jobTicks, hf, hk, hl, hx] using hfit'
  · have hload : s.loadAt f' x.val { j with state := .placed, phase := some ph } = 0 := by
      simp only [State.loadAt, Job.placed, State.jobTicks, hf, hk]
      rw [if_neg]
      simp only [Bool.and_eq_true, beq_iff_eq, List.contains_iff_mem, Option.some.injEq]
      rintro ⟨⟨-, e⟩, hx⟩
      exact hr ⟨e.symm, hx⟩
    rw [hload]
    exact h f' x

/-! ### Shedding ends with no overload (R40) -/

/-- How many jobs hold a reservation. -/
def State.placedCount (s : State) : Nat := (s.jobs.filter Job.placed).length

theorem State.placedCount_le (s : State) : s.placedCount ≤ s.jobs.length := List.length_filter_le _ _

/-- Shedding the line of a placed job leaves fewer reservations. -/
theorem State.placedCount_shed {j : Job} (hj : j ∈ s.jobs) (hp : j.placed = true) :
    (s.shed j.line).placedCount < s.placedCount := by
  have hle (i : Job) (hi : ((if i.line = j.line then s.shedJob i else i) : Job).placed = true) :
      i.placed = true ∧ i.line ≠ j.line := by
    split at hi
    · simp [Job.placed] at hi
    · exact ⟨hi, ‹_›⟩
  obtain ⟨a, b, e⟩ := List.append_of_mem hj
  have hmono (xs : List Job) :
      ((xs.map fun i => if i.line = j.line then s.shedJob i else i).filter Job.placed).length ≤
        (xs.filter Job.placed).length := by
    rw [List.filter_map, List.length_map]
    exact (List.monotone_filter_right xs fun i hi => (hle i hi).1).length_le
  have hz : Job.placed (s.shedJob j) = false := by simp [Job.placed]
  simp only [State.placedCount]
  change ((s.jobs.map fun i => if i.line = j.line then s.shedJob i else i).filter Job.placed).length < _
  rw [e]
  have ha := hmono a
  have hb := hmono b
  simp only [List.map_append, List.map_cons, if_true, List.filter_append, List.filter_cons, hz, hp, List.length_append,
    Bool.false_eq_true, if_false, List.length_cons]
  omega

/-- A position is overloaded where the profile exceeds the effective capacity (R40 step 1). -/
theorem State.mem_overloaded {f : Feed} {x : Nat} :
    x ∈ s.overloaded f ↔ x < 60 ∧ s.effectiveCapacity f < s.profile f x := by
  simp [State.overloaded]

/-- What a candidate for shedding is (R40 step 2). -/
theorem State.shedCandidate_iff {f : Feed} {j : Job} :
    s.shedCandidate f j = true ↔
      j.placed = true ∧ j.current = some f ∧ ∃ x ∈ s.overloaded f, x ∈ s.jobTicks j := by
  simp [State.shedCandidate, and_assoc]

/-- Only a walk over no candidates finds no victim. -/
theorem foldl_laterVictim_isSome {xs : List Job} {b : Option Job} (h : xs ≠ [] ∨ b.isSome = true) :
    (xs.foldl laterVictim b).isSome = true := by
  induction xs generalizing b with
  | nil => simpa using h
  | cons x xs ih =>
    refine ih (.inr ?_)
    unfold laterVictim
    split
    · rfl
    · split <;> rfl

/-- Where a position is overloaded there is a victim: some job rings there (R40). -/
theorem State.overloaded_of_no_victim {f : Feed} (h : s.victim f = none) : s.overloaded f = [] := by
  by_contra hne
  obtain ⟨x, hx⟩ := List.exists_mem_of_ne_nil _ hne
  obtain ⟨-, ho⟩ := State.mem_overloaded.1 hx
  have hpos : s.profile f x ≠ 0 := by omega
  obtain ⟨j, hj, hl⟩ : ∃ j ∈ s.jobs, s.loadAt f x j ≠ 0 := by
    by_contra hall
    push Not at hall
    exact hpos (List.sum_eq_zero (by simpa [State.profile] using hall))
  have hc : s.shedCandidate f j = true := by
    unfold State.loadAt at hl
    split at hl
    · next hc =>
      simp only [Bool.and_eq_true, beq_iff_eq, List.contains_iff_mem] at hc
      exact State.shedCandidate_iff.2 ⟨hc.1.1, hc.1.2, x, hx, hc.2⟩
    · exact absurd rfl hl
  have hs := foldl_laterVictim_isSome (xs := s.jobs.filter (s.shedCandidate f)) (b := none)
    (.inl (List.ne_nil_of_mem (List.mem_filter.2 ⟨hj, hc⟩)))
  rw [State.victim] at h
  simp [h] at hs

/-- A victim holds a reservation. -/
theorem State.victim_placed {f : Feed} {j : Job} (h : s.victim f = some j) : j ∈ s.jobs ∧ j.placed = true :=
  have ⟨hm, hc⟩ := State.victim_mem h
  ⟨hm, (State.shedCandidate_iff.1 hc).1⟩

/-- With as many rounds as there are reservations, shedding ends with no position of the feed overloaded (R40). -/
theorem State.shedLoop_overloaded (f : Feed) (n : Nat) (h : s.placedCount ≤ n) : (s.shedLoop f n).overloaded f = [] := by
  induction n generalizing s with
  | zero =>
    refine State.overloaded_of_no_victim (s := s) ?_
    cases hv : s.victim f with
    | none => rfl
    | some j =>
      have := State.placedCount_shed (State.victim_placed hv).1 (State.victim_placed hv).2
      omega
  | succ n ih =>
    unfold State.shedLoop
    split
    · next hv => exact State.overloaded_of_no_victim hv
    · next j hv =>
      have := State.placedCount_shed (State.victim_placed hv).1 (State.victim_placed hv).2
      exact ih (by omega)

/-- A job placed after a line is shed is an unchanged job of another line. -/
theorem State.mem_shed_placed {l : Fin 32} {j : Job} (hj : j ∈ (s.shed l).jobs) (hp : j.placed = true) :
    j ∈ s.jobs ∧ j.line ≠ l := by
  obtain ⟨i, hi, rfl⟩ := List.mem_map.1 hj
  by_cases e : i.line = l
  · simp [e, Job.placed] at hp
  · rw [if_neg e]
    exact ⟨hi, e⟩

/-- What shedding leaves as it was, and that it adds to no profile. -/
structure ShedFrom (s t : State) : Prop where
  rest : t = { s with jobs := t.jobs, lines := t.lines }
  jobLines : t.jobs.map (·.line) = s.jobs.map (·.line)
  lines : ∀ l, t.line l = s.line l ∨ t.line l = { s.line l with drive := none }
  placed : ∀ j ∈ t.jobs, j.placed = true → j ∈ s.jobs
  profile : ∀ f x, t.profile f x ≤ s.profile f x

theorem ShedFrom.refl (s : State) : ShedFrom s s := ⟨rfl, rfl, fun _ => .inl rfl, fun _ hj _ => hj, fun _ _ => le_rfl⟩

theorem ShedFrom.trans {u : State} (h : ShedFrom s t) (k : ShedFrom t u) : ShedFrom s u where
  rest := by rw [k.rest, h.rest]
  jobLines := k.jobLines.trans h.jobLines
  lines l := by
    rcases h.lines l with e | e <;> rcases k.lines l with e' | e' <;> rw [e'] <;> simp [e]
  placed j hj hp := h.placed j (k.placed j hj hp) hp
  profile f x := (k.profile f x).trans (h.profile f x)

theorem ShedFrom.shed (s : State) (l : Fin 32) : ShedFrom s (s.shed l) where
  rest := rfl
  jobLines := s.shed_jobLines l
  lines k := by
    rw [show (s.shed l).line k = (s.cutDrive l).line k from rfl, State.cutDrive, State.modLine_line]
    split
    · next e => exact .inr (by rw [e])
    · exact .inl rfl
  placed j hj hp := (State.mem_shed_placed hj hp).1
  profile := by
    refine State.profile_le_of_map (g := fun j => if j.line = l then s.shedJob j else j) rfl rfl fun j _ hp => ?_
    by_cases e : j.line = l
    · simp [e, Job.placed] at hp
    · rw [if_neg e] at hp ⊢
      exact .refl hp

theorem ShedFrom.shedLoop (s : State) (f : Feed) (n : Nat) : ShedFrom s (s.shedLoop f n) := by
  induction n generalizing s with
  | zero => exact .refl s
  | succ n ih =>
    unfold State.shedLoop
    split
    · exact .refl s
    · next j _ => exact (ShedFrom.shed s j.line).trans (ih _)

theorem ShedFrom.shedFeed (s : State) (f : Feed) : ShedFrom s (s.shedFeed f) := .shedLoop s f _

theorem ShedFrom.foldl {α : Type} (f : State → α → State) (h : ∀ s x, ShedFrom s (f s x)) (xs : List α) (s : State) :
    ShedFrom s (xs.foldl f s) :=
  foldl_induction (P := ShedFrom s) f xs s (.refl s) fun u x hu => hu.trans (h u x)

theorem ShedFrom.capacity {f : Feed} (h : ShedFrom s t) : t.effectiveCapacity f = s.effectiveCapacity f := by
  rw [h.rest]; rfl

/-- No position of a feed is overloaded. -/
def FeedWithin (s : State) (f : Feed) : Prop := ∀ x : Fin 60, s.profile f x.val ≤ s.effectiveCapacity f

/-- Shedding overloads no feed. -/
theorem ShedFrom.feedWithin {f : Feed} (h : ShedFrom s t) (hf : FeedWithin s f) : FeedWithin t f := fun x => by
  rw [h.capacity]; exact (h.profile f x.val).trans (hf x)

/-- Shedding on a feed ends with none of its positions overloaded (R40). -/
theorem State.shedFeed_within (s : State) (f : Feed) : FeedWithin (s.shedFeed f) f := by
  intro x
  have h := State.shedLoop_overloaded (s := s) f _ s.placedCount_le
  by_contra hx
  have : x.val ∈ (s.shedFeed f).overloaded f := State.mem_overloaded.2 ⟨x.isLt, not_le.1 hx⟩
  rw [State.shedFeed, h] at this
  cases this

/-- Shedding on each feed ends with no position of any feed overloaded (R42). -/
theorem State.shedFeeds_within (fs : List Feed) (s : State) {f : Feed} (hf : f ∈ fs) :
    FeedWithin (fs.foldl State.shedFeed s) f := by
  induction fs generalizing s with
  | nil => cases hf
  | cons g fs ih =>
    rcases List.mem_cons.1 hf with rfl | hf
    · exact (ShedFrom.foldl _ .shedFeed fs _).feedWithin (s.shedFeed_within f)
    · exact ih _ hf

/-- No job of a shed line is placed afterwards. -/
theorem State.mem_shedLines_placed (ls : List (Fin 32)) {s : State} {j : Job} (hj : j ∈ (ls.foldl State.shed s).jobs)
    (hp : j.placed = true) : j ∈ s.jobs ∧ j.line ∉ ls := by
  induction ls generalizing s with
  | nil => exact ⟨hj, List.not_mem_nil⟩
  | cons l ls ih =>
    obtain ⟨hm, hn⟩ := ih hj
    obtain ⟨hm, hl⟩ := State.mem_shed_placed hm hp
    exact ⟨hm, by simp [hl, hn]⟩

/-- Shedding the low classes leaves none of them placed (R42). -/
theorem State.mem_shedLowClasses_placed {j : Job} (hj : j ∈ s.shedLowClasses.jobs) (hp : j.placed = true) :
    j ∈ s.jobs ∧ 2 ≤ j.cls.val := by
  obtain ⟨hm, hn⟩ := State.mem_shedLines_placed _ hj hp
  refine ⟨hm, ?_⟩
  by_contra hc
  exact hn (List.mem_map_of_mem (List.mem_filter.2 ⟨hm, by simp [hp]; omega⟩))

theorem ShedFrom.shedLowClasses (s : State) : ShedFrom s s.shedLowClasses := .foldl _ .shed _ s

theorem ShedFrom.shedAll (s : State) : ShedFrom s s.shedAll := .foldl _ .shedFeed _ s

theorem State.shedAll_within (s : State) : WithinCapacity s.shedAll := fun f x =>
  State.shedFeeds_within allFeeds s (by cases f <;> simp [allFeeds]) x

end Sys2Proof.Machine
end

section
/-! PROOFS. Every step keeps each feed within its capacity, the class gate shut at CRITICAL and no job on a FAILED feed
(R35, R39, R131). -/

namespace Sys2Proof.Machine

variable {s t : State}

/-! ### What a change makes of the reservations and the feeds of the jobs -/

/-- A job placed after a change kept its reservation, or was placed past the class gate (R39). -/
theorem PoolChange.placed {jobs : List Job} {reverts : List Revert} (h : PoolChange s jobs reverts)
    (hn : (s.jobs.map (·.line)).Nodup) {j' : Job} (hj : j' ∈ jobs) (hp : j'.placed = true) :
    (∃ j ∈ s.jobs, SameReservation j j') ∨ s.gated j' = false := by
  cases h
  case map g _ hg _ =>
    obtain ⟨j, hm, rfl⟩ := List.mem_map.1 hj
    exact .inl ⟨j, hm, (hg j hm).reservation hp⟩
  case place l j f k n ph hjob hw hg hf hk hload hfit =>
    obtain ⟨i, hm, rfl⟩ := List.mem_map.1 hj
    by_cases e : i.line = l
    · obtain rfl : i = j := Option.some.inj (((State.job?_eq_some_iff hn).2 ⟨hm, e⟩).symm.trans hjob)
      rw [if_pos e]
      exact .inr hg
    · rw [if_neg e] at hp ⊢
      exact .inl ⟨i, hm, .refl hp⟩
  case drop l => exact .inl ⟨j', (List.mem_filter.1 hj).1, .refl hp⟩
  case ring p l y c b notice hi _ _ _ =>
    rcases List.mem_append.1 hj with hm | hm
    · exact .inl ⟨j', hm, .refl hp⟩
    · rw [List.mem_singleton.1 hm] at hp
      have := State.takeStation_reservation hp
      simpa [ringJob, Job.placed] using this.placed
  case reserve =>
    rcases List.mem_append.1 hj with hm | hm
    · exact .inl ⟨j', hm, .refl hp⟩
    · rw [List.mem_singleton.1 hm] at hp
      simp [reservedFor, Job.placed] at hp
  case hangUp l r hr =>
    obtain ⟨j, hm, rfl⟩ := List.mem_map.1 hj
    refine .inl ⟨j, hm, ?_⟩
    split at hp
    · next e => rw [if_pos e]; exact State.takeStation_reservation hp
    · next e => rw [if_neg e]; exact .refl hp

/-- After a change each job stands on a GOOD feed, or where a job stood before (R47, R131). -/
theorem PoolChange.current {jobs : List Job} {reverts : List Revert} (h : PoolChange s jobs reverts) {j' : Job}
    (hj : j' ∈ jobs) {f : Feed} (hf : j'.current = some f) :
    (s.feed f).state = .good ∨ ∃ j ∈ s.jobs, j.current = some f := by
  cases h
  case map g _ hg _ =>
    obtain ⟨j, hm, rfl⟩ := List.mem_map.1 hj
    exact ((hg j hm).current_good hf).imp_right fun hc => ⟨j, hm, hc⟩
  case place =>
    obtain ⟨i, hm, rfl⟩ := List.mem_map.1 hj
    split at hf <;> exact .inr ⟨i, hm, hf⟩
  case drop => exact .inr ⟨j', (List.mem_filter.1 hj).1, hf⟩
  case ring =>
    rcases List.mem_append.1 hj with hm | hm
    · exact .inr ⟨j', hm, hf⟩
    · rw [List.mem_singleton.1 hm] at hf
      exact (State.takeStation_current hf).imp_right fun hc => by simp [ringJob] at hc
  case reserve =>
    rcases List.mem_append.1 hj with hm | hm
    · exact .inr ⟨j', hm, hf⟩
    · simp [List.mem_singleton.1 hm, reservedFor] at hf
  case hangUp =>
    obtain ⟨j, hm, rfl⟩ := List.mem_map.1 hj
    split at hf
    · exact (State.takeStation_current hf).imp_right fun hc => ⟨j, hm, hc⟩
    · exact .inr ⟨j, hm, hf⟩

/-! ### Capacity and gate (R35, R39) -/

/-- What the capacity and the gate read beside the jobs is as it was. -/
structure SameScale (s t : State) : Prop where
  patterns : t.patterns = s.patterns
  capacity : ∀ f, (t.feed f).capacity = (s.feed f).capacity
  level : t.battery.level = s.battery.level

theorem SameRest.sameScale (h : SameRest s t) : SameScale s t :=
  ⟨h.patterns, fun f => (h.feeds f).capacity, h.level⟩

theorem SameScale.modFeed (s : State) (f : Feed) (g : FeedRecord → FeedRecord)
    (hg : (g (s.feed f)).capacity = (s.feed f).capacity) : SameScale s (s.modFeed f g) := by
  refine ⟨rfl, fun k => ?_, rfl⟩
  by_cases h : k = f
  · subst h; rw [State.modFeed_feed_self]; exact hg
  · rw [State.modFeed_feed_other s g h]

/-- One job a line, each feed within its capacity and the gate shut at CRITICAL (R35, R39, R45). -/
structure Load (s : State) : Prop where
  pool : PoolBounded s
  within : WithinCapacity s
  gate : GateHolds s

/-- Capacity is kept where no profile rises. -/
theorem WithinCapacity.of_le (h : WithinCapacity s) (hs : SameScale s t)
    (hp : ∀ f x, t.profile f x ≤ s.profile f x) : WithinCapacity t := fun f x => by
  rw [State.effectiveCapacity_congr (hs.capacity f) hs.level]
  exact (hp f x.val).trans (h f x)

/-- Every change keeps each feed within its capacity: only placing raises a profile, and it fits. -/
theorem WithinCapacity.change (h : WithinCapacity s) (hn : (s.jobs.map (·.line)).Nodup) (hs : SameScale s t)
    (hc : PoolChange s t.jobs t.reverts) : WithinCapacity t := by
  generalize ej : t.jobs = jobs at hc
  generalize t.reverts = reverts at hc
  cases hc
  case map g _ hg _ =>
    exact h.of_le hs (State.profile_le_of_map ej hs.patterns fun j hj => (hg j hj).reservation)
  case place hj hw _ hf hk hl hfit =>
    exact (WithinCapacity.place h hn hj hw hf hk hl hfit).of_le ⟨hs.patterns, hs.capacity, hs.level⟩
      (State.profile_le_of_sublist (ej ▸ .refl _) hs.patterns)
  case drop l => exact h.of_le hs (State.profile_le_of_sublist (ej ▸ List.filter_sublist) hs.patterns)
  case ring p l y c b notice hi _ _ _ =>
    refine h.of_le hs fun f x => (State.profile_append ej ?_ hs.patterns f x).le
    obtain ⟨hv | hv, -⟩ :=
      s.takeStation_taken (j := ringJob p l y c (clampLimit (s.line l).desc.frameLimit b) notice) hi <;> simp [Job.placed, hv]
  case reserve =>
    exact h.of_le hs fun f x => (State.profile_append ej (by simp [Job.placed, reservedFor]) hs.patterns f x).le
  case hangUp =>
    refine h.of_le hs (State.profile_le_of_map ej hs.patterns fun j _ hp => ?_)
    split at hp
    · next e => rw [if_pos e]; exact State.takeStation_reservation hp
    · next e => rw [if_neg e]; exact .refl hp

/-- Every change keeps the gate: a job is placed past it, and no class falls (R67). -/
theorem GateHolds.change (h : GateHolds s) (hn : (s.jobs.map (·.line)).Nodup) (hs : SameScale s t)
    (hc : PoolChange s t.jobs t.reverts) : GateHolds t := by
  intro hl j' hj' hp
  rw [hs.level] at hl
  rcases hc.placed hn hj' hp with ⟨j, hj, hr⟩ | hg
  · exact (h hl j hj hr.placed).trans hr.cls
  · rw [State.gated, hl, beq_self_eq_true, Bool.true_and, decide_eq_false_iff_not] at hg
    omega

theorem Load.change (h : Load s) (hs : SameScale s t) (hc : PoolChange s t.jobs t.reverts) : Load t :=
  ⟨hc.pool h.pool, h.within.change h.pool.2 hs hc, h.gate.change h.pool.2 hs hc⟩

/-- A placement pass keeps capacity and gate (R36, R39). -/
theorem Load.pass (h : Load s) : Load s.pass := by
  refine s.pass_induction h fun t l ht => ?_
  rcases t.tryPlace_cases l with e | ⟨j, f, k, n, ph, hj, hw, hg, hf, hk, hn, hfit, e⟩
  · rw [e]; exact ht
  · rw [e]; exact ht.change ⟨rfl, fun _ => rfl, rfl⟩ (.place hj hw hg hf hk hn hfit)

theorem Load.passIf (b : Bool) (h : Load s) : Load (s.passIf b) := by
  cases b
  · exact h
  · exact h.pass

theorem ShedFrom.poolBounded (h : ShedFrom s t) (hp : PoolBounded s) : PoolBounded t := by
  have hl := congrArg List.length h.jobLines
  rw [List.length_map, List.length_map] at hl
  exact ⟨hl.trans_le hp.1, h.jobLines ▸ hp.2⟩

theorem ShedFrom.level (h : ShedFrom s t) : t.battery.level = s.battery.level := by rw [h.rest]

/-- Shedding places nothing, so it keeps the gate. -/
theorem ShedFrom.gateHolds (h : ShedFrom s t) (hg : GateHolds s) : GateHolds t := fun hl j hj hp =>
  hg (h.level ▸ hl) j (h.placed j hj hp) hp

/-- A feed written keeps capacity and gate: it is shed where its effective capacity fell (R43). -/
theorem Load.writeFeed (f : Feed) (n c : Nat) (b : Bool) (h : Load s) : Load (s.writeFeed f n c b) := by
  unfold State.writeFeed
  dsimp only
  set t := s.modFeed f fun x => { x with freq := n, capacity := saturateCapacity f c, fallback := b } with ht
  have hother (g : Feed) (hg : g ≠ f) : FeedWithin t g := fun x => by
    rw [State.effectiveCapacity_congr (t := t) (s := s) (by rw [ht, State.modFeed_feed_other s _ hg]) rfl]
    exact h.within g x
  refine Load.pass ?_
  split
  · have hs := ShedFrom.shedFeed t f
    refine ⟨hs.poolBounded h.pool, fun g => ?_, hs.gateHolds h.gate⟩
    by_cases hg : g = f
    · exact hg ▸ t.shedFeed_within f
    · exact hs.feedWithin (hother g hg)
  · next hc =>
    refine ⟨h.pool, fun g => ?_, h.gate⟩
    by_cases hg : g = f
    · subst hg
      exact fun x => (h.within g x).trans (not_lt.1 hc)
    · exact hother g hg

/-- What leaves the pool and its scale as they were keeps capacity and gate. -/
theorem Load.quiet (h : Load s) (hq : Quiet s t) : Load t :=
  h.change hq.sameScale (by rw [hq.jobs, hq.reverts]; exact .none)

/-- Moving jobs off a failed feed keeps capacity and gate. -/
theorem Load.failFeed (f : Feed) (h : Load s) : Load (s.failFeed f) := by
  unfold State.failFeed
  dsimp only
  refine Load.quiet ?_ ((Quiet.postAll _ _).trans (.capture _ _ _ _))
  have ht : Load (s.modFeed f fun x =>
      { x with state := .failed, absentRun := 0, presentRun := 0, latch := true, frozen := true }) :=
    h.change (.modFeed s f _ rfl) .none
  exact Load.passIf _ (foldl_induction _ _ _ ht fun u l hu =>
    hu.change (t := u.moveOff l) ⟨rfl, fun _ => rfl, rfl⟩ (.modJobs fun _ _ _ => .moved))

/-- What is shed where a level is in force after the level `old`: at CRITICAL the low classes and every feed, from NORMAL
to LOW every feed, otherwise nothing (R42). -/
def State.levelShed (s : State) (old : Level) : State :=
  if s.battery.level = .critical then s.shedLowClasses.shedAll
  else if s.battery.level = .low ∧ old = .normal then s.shedAll
  else s

/-- A level change sheds and then runs one pass. -/
theorem State.scheduleLevel_eq (s : State) (old : Level) : s.scheduleLevel old = (s.levelShed old).pass := by
  unfold State.scheduleLevel State.levelShed
  split
  · next h => rw [if_pos h]
  · next h =>
    by_cases ho : old = .normal <;> simp [h, ho]
  · next h => simp [h]

theorem ShedFrom.levelShed (s : State) (old : Level) : ShedFrom s (s.levelShed old) := by
  unfold State.levelShed
  split
  · exact (ShedFrom.shedLowClasses s).trans (.shedAll _)
  · split
    · exact .shedAll s
    · exact .refl s

/-- Other than a fall to LOW or CRITICAL, no level change takes capacity away (R34, R132). -/
theorem derating_le_of_rise {old v : Level} (hc : v ≠ .critical) (ho : ¬(v = .low ∧ old = .normal)) :
    derating old ≤ derating v := by
  revert hc ho
  cases v <;> cases old <;> simp [derating]

/-- A level change keeps the gate, and capacity too: CRITICAL and LOW after NORMAL shed every feed, and a rise leaves
room (R42). -/
theorem Load.level (v : Level) (hp : PoolBounded s) (hw : v = .critical ∨ WithinCapacity s) :
    Load ({ s with battery := { s.battery.clearRun with level := v } }.scheduleLevel s.battery.level) := by
  set t : State := { s with battery := { s.battery.clearRun with level := v } } with ht
  have hs := ShedFrom.levelShed t s.battery.level
  have hv : (t.levelShed s.battery.level).battery.level = v := hs.level
  rw [State.scheduleLevel_eq]
  refine Load.pass ⟨hs.poolBounded hp, ?_, fun hl j hj hplaced => ?_⟩
  · unfold State.levelShed
    split
    · exact State.shedAll_within _
    · next hc =>
      split
      · exact t.shedAll_within
      · next ho =>
        have hd : derating s.battery.level ≤ derating v := derating_le_of_rise hc ho
        exact fun f x => (hw.resolve_left hc f x).trans (Nat.div_le_div_right (Nat.mul_le_mul_left _ hd))
  · have hc : t.battery.level = .critical := hv.symm.trans hl
    rw [State.levelShed, if_pos hc] at hj
    exact (State.mem_shedLowClasses_placed ((ShedFrom.shedAll _).placed j hj hplaced) hplaced).2

/-! ### Jobs on a FAILED feed (R120, R131) -/

/-- A job in shape that selects its target stands on a GOOD feed or on none (R47). -/
theorem State.selectTarget_good {j : Job} {f : Feed} (hs : JobShape j) (hf : (s.selectTarget j).current = some f) :
    (s.feed f).state = .good := by
  rcases s.selectTarget_cases j with ⟨hn, e⟩ | ⟨b, -, ⟨g, hg, e⟩ | e⟩ <;> rw [e] at hf
  · have hr := not_reserved_of_current hs (by simp [hf])
    obtain ⟨-, -, -, hh, -, -⟩ := (jobShape_active hr).1 hs
    simp [hn] at hh
  · cases hf; exact hg
  · cases hf

/-- Moving the jobs of some lines leaves no job on a FAILED feed where all the others stood on GOOD ones (R120). -/
theorem NoJobOnFailedFeed.moveOff (ls : List (Fin 32)) {s : State} (hs : JobsShaped s)
    (h : ∀ j ∈ s.jobs, ∀ f, j.current = some f → (s.feed f).state = .good ∨ j.line ∈ ls) :
    NoJobOnFailedFeed (ls.foldl State.moveOff s) := by
  induction ls generalizing s with
  | nil => exact fun j hj f hf => (h j hj f hf).resolve_right List.not_mem_nil
  | cons l ls ih =>
    refine ih (List.forall_mem_map.2 fun j hj => ?_) (List.forall_mem_map.2 fun j hj f hf => ?_)
    · split
      · exact JobChange.moved.shape (hs j hj)
      · exact hs j hj
    · by_cases e : j.line = l
      · rw [if_pos e] at hf
        exact .inl (State.selectTarget_good (hs j hj) hf)
      · rw [if_neg e] at hf ⊢
        exact (h j hj f hf).imp_right fun hm => (List.mem_cons.1 hm).resolve_left e

theorem NoJobOnFailedFeed.change (h : NoJobOnFailedFeed s) (hg : ∀ f, (s.feed f).state = .good → (t.feed f).state = .good)
    (hc : PoolChange s t.jobs t.reverts) : NoJobOnFailedFeed t := fun _ hj f hf =>
  hg f ((hc.current hj hf).elim id fun ⟨j, hm, e⟩ => h j hm f e)

/-- A feed stays GOOD where its record is written and its state left or made GOOD. -/
theorem feedGood_modFeed (s : State) (f : Feed) (g : FeedRecord → FeedRecord)
    (hg : (s.feed f).state = .good → (g (s.feed f)).state = .good) (k : Feed) (hk : (s.feed k).state = .good) :
    ((s.modFeed f g).feed k).state = .good := by
  by_cases e : k = f
  · subst e; rw [State.modFeed_feed_self]; exact hg hk
  · rw [State.modFeed_feed_other s g e]; exact hk

/-! ### Every command in RUN -/

/-- What every command taken in RUN keeps of the load. -/
structure LoadInRun (s : State) : Prop where
  load : Load s
  shaped : JobsShaped s
  feeds : NoJobOnFailedFeed s

theorem LoadInRun.change (h : LoadInRun s) (hs : SameScale s t)
    (hg : ∀ f, (s.feed f).state = .good → (t.feed f).state = .good) (hc : PoolChange s t.jobs t.reverts) :
    LoadInRun t :=
  ⟨h.load.change hs hc, hc.shaped h.load.pool h.shaped, h.feeds.change hg hc⟩

theorem LoadInRun.keptByChange : KeptByChange LoadInRun where
  lines h := h.load.pool.2
  shaped h := h.shaped
  change h hr hc := h.change hr.sameScale (fun f => (hr.feeds f).state.trans) hc

/-- The pool in shape with no job on a FAILED feed, which no capacity and no level bears on. -/
structure FeedsInRun (s : State) : Prop where
  pool : PoolBounded s
  shaped : JobsShaped s
  feeds : NoJobOnFailedFeed s

theorem FeedsInRun.change (h : FeedsInRun s) (hg : ∀ f, (s.feed f).state = .good → (t.feed f).state = .good)
    (hc : PoolChange s t.jobs t.reverts) : FeedsInRun t :=
  ⟨hc.pool h.pool, hc.shaped h.pool h.shaped, h.feeds.change hg hc⟩

theorem FeedsInRun.keptByChange : KeptByChange FeedsInRun where
  lines h := h.pool.2
  shaped h := h.shaped
  change h hr hc := h.change (fun f => (hr.feeds f).state.trans) hc

theorem LoadInRun.feedsInRun (h : LoadInRun s) : FeedsInRun s := ⟨h.load.pool, h.shaped, h.feeds⟩

/-- A pattern that no job holds is nothing to any profile (R26). -/
theorem Load.setPattern {k : Fin 16} {x : Pattern} (h : Load s) (hu : s.patternInUse k = false) :
    Load (s.setPattern k x) := by
  refine ⟨h.pool, fun f n => ?_, h.gate⟩
  have hload : (s.setPattern k x).profile f n.val = s.profile f n.val := by
    refine congrArg List.sum (List.map_congr_left fun j hj => ?_)
    have hk : j.pattern ≠ some k := by
      simp only [State.patternInUse, Bool.or_eq_false_iff, List.any_eq_false, beq_iff_eq] at hu
      exact hu.1 j hj
    have ht : (s.setPattern k x).jobTicks j = s.jobTicks j := by
      unfold State.jobTicks
      split
      · next k' ph hp _ => rw [State.setPattern_pattern_other s x fun e => hk (hp.trans (congrArg some e))]
      · rfl
    rw [State.loadAt, State.loadAt, ht]
  rw [hload]
  exact h.within f n

/-- A failed feed's jobs are moved off it (R119, R120). -/
theorem FeedsInRun.failFeed (f : Feed) (h : FeedsInRun s) : FeedsInRun (s.failFeed f) := by
  have K := FeedsInRun.keptByChange
  unfold State.failFeed
  dsimp only
  set t := s.modFeed f fun x => { x with state := .failed, absentRun := 0, presentRun := 0, latch := true, frozen := true }
    with ht
  refine K.quiet (K.passIf _ ?_) ((Quiet.postAll _ _).trans (.capture _ _ _ _))
  set ls := (t.jobs.filter fun j => j.current == some f).map (·.line)
  have hm : PoolBounded (ls.foldl State.moveOff t) ∧ JobsShaped (ls.foldl State.moveOff t) := by
    refine foldl_induction (P := fun u => PoolBounded u ∧ JobsShaped u) _ _ _ ⟨h.pool, h.shaped⟩ fun u l hu => ?_
    have hc : PoolChange u (u.moveOff l).jobs (u.moveOff l).reverts := .modJobs fun _ _ _ => .moved
    exact ⟨hc.pool hu.1, hc.shaped hu.1 hu.2⟩
  refine ⟨hm.1, hm.2, NoJobOnFailedFeed.moveOff ls h.shaped fun j hj g hg => ?_⟩
  by_cases e : g = f
  · exact .inr (List.mem_map_of_mem (List.mem_filter.2 ⟨hj, by simp [hg, e]⟩))
  · rw [ht, State.modFeed_feed_other s _ e]
    exact .inl (h.feeds j hj g hg)

theorem FeedsInRun.writeFeed (f : Feed) (n c : Nat) (b : Bool) (h : FeedsInRun s) :
    FeedsInRun (s.writeFeed f n c b) := by
  have K := FeedsInRun.keptByChange
  have ht := h.change (feedGood_modFeed s f
    (fun x => { x with freq := n, capacity := saturateCapacity f c, fallback := b }) id) .none
  refine K.pass ?_
  split
  · exact K.shedFeed f ht
  · exact ht

theorem FeedsInRun.level (v : Level) (h : FeedsInRun s) :
    FeedsInRun ({ s with battery := { s.battery.clearRun with level := v } }.scheduleLevel s.battery.level) := by
  have ht : FeedsInRun { s with battery := { s.battery.clearRun with level := v } } := ⟨h.pool, h.shaped, h.feeds⟩
  exact FeedsInRun.keptByChange.scheduleLevel _ ht

theorem LoadInRun.keptInRun : KeptInRun LoadInRun where
  toKeptByChange := LoadInRun.keptByChange
  descriptor h _ _ _ := ⟨⟨h.load.pool, h.load.within, h.load.gate⟩, h.shaped, h.feeds⟩
  pattern h hu := ⟨h.load.setPattern hu, h.shaped, h.feeds⟩
  feedFails h := ⟨h.load.failFeed _, (h.feedsInRun.failFeed _).shaped, (h.feedsInRun.failFeed _).feeds⟩
  feedGood h := h.change (.modFeed _ _ _ rfl) (feedGood_modFeed _ _ _ fun _ => rfl) .none
  feedWritten h := ⟨h.load.writeFeed _ _ _ _, (h.feedsInRun.writeFeed _ _ _ _).shaped,
    (h.feedsInRun.writeFeed _ _ _ _).feeds⟩
  level h := ⟨.level _ h.load.pool (.inr h.load.within), (h.feedsInRun.level _).shaped, (h.feedsInRun.level _).feeds⟩

/-- Settles O57: every change of `PoolChange` keeps the three promises, and so do the feed and level commands; outside RUN
and after a reset the pool is empty. -/
theorem stepKeepsCapacityAndGate : Obligations.StepKeepsCapacityAndGate := by
  rintro s t ⟨hpool, hidle, hshaped, hwithin, hgate, hfeeds⟩ h
  rcases LoadInRun.keptInRun.step (fun rest _ => ⟨⟨hpool, hwithin, hgate⟩, hshaped, hfeeds⟩) hidle h with
    rfl | ⟨-, hp⟩ | ⟨⟨hj, -, -⟩, -⟩
  · exact ⟨hwithin, hgate, hfeeds⟩
  · exact ⟨hp.load.within, hp.load.gate, hp.feeds⟩
  · exact ⟨fun f x => by simp [State.profile, hj], fun _ j hm => by simp [hj] at hm, fun j hm => by simp [hj] at hm⟩

end Sys2Proof.Machine
end

section
/-! PROOFS. A placement pass: the walk of the WAITING jobs, and the first phase that fits (R36 to R39, R49). -/

namespace Sys2Proof.Machine

variable {s : State}

/-- Under ARRIVAL the queue is the WAITING jobs in arrival order (R49). -/
theorem State.queue_byArrival (h : s.policy = .byArrival) :
    s.queue = (s.jobs.filter fun j => j.state == .waiting).map (·.line) := by
  simp only [State.queue, h]

/-- Under CLASS it is the WAITING jobs of each class in turn, the highest first (R49). -/
theorem State.queue_byClass (h : s.policy = .byClass) :
    s.queue = (([3, 2, 1, 0] : List (Fin 4)).flatMap fun c =>
      (s.jobs.filter fun j => j.state == .waiting).filter fun j => j.cls == c).map (·.line) := by
  simp [State.queue, h, State.waitingOfClass, List.filter_filter, Bool.and_comm]

/-- A job for which no phase is found is passed over (R38). -/
theorem State.tryPlace_of_none {l : Fin 32} {j : Job} (hj : s.job? l = some j) (hp : s.phaseFor j = none) :
    s.tryPlace l = s := by
  simp only [State.tryPlace, hj, hp]

/-- A job is placed at the phase found for it (R38). -/
theorem State.tryPlace_of_some {l : Fin 32} {j : Job} {ph : Fin 12} (hj : s.job? l = some j)
    (hp : s.phaseFor j = some ph) :
    s.tryPlace l = s.modJob l fun j => { j with state := .placed, phase := some ph } := by
  simp only [State.tryPlace, hj, hp]

/-- No phase is found for a job that is not WAITING or that the class gate holds (R39). -/
theorem State.phaseFor_eq_none {j : Job} (h : j.state ≠ .waiting ∨ s.gated j = true) : s.phaseFor j = none := by
  refine if_neg fun ⟨hw, hg⟩ => ?_
  rcases h with h | h
  · exact h hw
  · rw [h] at hg; cases hg

/-- The phase of a WAITING job that the gate lets pass is the first that fits. -/
theorem State.phaseFor_eq {j : Job} {f : Feed} {k : Fin 16} {n : Nat} (hw : j.state = .waiting)
    (hg : s.gated j = false) (hf : j.current = some f) (hk : j.pattern = some k) (hn : j.load = some n) :
    s.phaseFor j = s.findPhase f (s.pattern k) n := by
  rw [State.phaseFor, if_pos ⟨hw, hg⟩, hf, hk, hn]

theorem State.gated_eq_true_iff {j : Job} : s.gated j = true ↔ s.battery.level = .critical ∧ j.cls.val ≤ 1 := by
  simp [State.gated]

theorem State.gated_eq_false_iff {j : Job} : s.gated j = false ↔ (s.battery.level = .critical → 2 ≤ j.cls.val) := by
  rw [← Bool.not_eq_true, State.gated_eq_true_iff, not_and, not_le]
  exact Iff.rfl

/-- A load fits at a phase where it stays within the effective capacity at every position that it rings (R36). -/
theorem State.fits_iff {f : Feed} {x : Pattern} {n : Nat} {ph : Fin 12} :
    s.fits f x n ph = true ↔
      ∀ u ∈ onSet x, s.profile f ((u + 5 * ph.val) % 60) + n ≤ s.effectiveCapacity f := by
  simp [State.fits, absoluteOnSet]

/-- The first of a run of candidates that passes a test. -/
theorem find?_map_range_eq_some {α : Type} {c : Nat → α} {p : α → Bool} {m i : Nat} (hi : i < m) (hp : p (c i) = true)
    (hn : ∀ k, k < i → p (c k) = false) : ((List.range m).map c).find? p = some (c i) := by
  rw [List.find?_map, List.find?_range_eq_some.2 ⟨hp, by simpa using hi, by simpa using hn⟩]
  rfl

/-- The search stops at the first candidate that fits (R37). -/
theorem State.findPhase_eq_some {f : Feed} {x : Pattern} {n i : Nat} (hi : i < 12)
    (hfit : s.fits f x n (Fin.ofNat 12 (s.pos.val / 5 + 1 + i)) = true)
    (hnot : ∀ m, m < i → s.fits f x n (Fin.ofNat 12 (s.pos.val / 5 + 1 + m)) = false) :
    s.findPhase f x n = some (Fin.ofNat 12 (s.pos.val / 5 + 1 + i)) :=
  find?_map_range_eq_some (c := fun i => Fin.ofNat 12 (s.pos.val / 5 + 1 + i)) hi hfit hnot

/-- The search ends without a phase where no candidate fits (R38). -/
theorem State.findPhase_eq_none {f : Feed} {x : Pattern} {n : Nat}
    (h : ∀ i, i < 12 → s.fits f x n (Fin.ofNat 12 (s.pos.val / 5 + 1 + i)) = false) : s.findPhase f x n = none := by
  simpa [State.findPhase, phaseCandidates] using h

/-- Settles O14: a pass is the walk of its queue, and one visit places a job at the phase that the search finds. -/
theorem placementTakesTheFirstFit : Obligations.PlacementTakesTheFirstFit := by
  refine ⟨fun s => ?_, fun s l j hj h => ?_, fun s l j f k n hj hw hf hk hn hg => ?_⟩
  · dsimp only
    cases h : s.policy with
    | byArrival => exact congrArg (fun ls => ls.foldl State.tryPlace s) (State.queue_byArrival h)
    | byClass => exact congrArg (fun ls => ls.foldl State.tryPlace s) (State.queue_byClass h)
  · exact State.tryPlace_of_none hj (State.phaseFor_eq_none (h.imp_right State.gated_eq_true_iff.2))
  · have hphase := State.phaseFor_eq hw (State.gated_eq_false_iff.2 hg) hf hk hn
    intro candidate fitsAt
    have hfits (i : Nat) : s.fits f (s.pattern k) n (candidate i) = true ↔ fitsAt i := State.fits_iff
    refine ⟨fun i hi hfit hfirst => ?_, fun hnone => ?_⟩
    · have hsome : s.findPhase f (s.pattern k) n = some (candidate i) :=
        State.findPhase_eq_some hi ((hfits i).2 hfit) fun m hm =>
          Bool.eq_false_iff.2 fun h => hfirst m hm ((hfits m).1 h)
      exact State.tryPlace_of_some hj (hphase.trans hsome)
    · have hnoPhase : s.findPhase f (s.pattern k) n = none :=
        State.findPhase_eq_none fun i hi => Bool.eq_false_iff.2 fun h => hnone i hi ((hfits i).1 h)
      exact State.tryPlace_of_none hj (hphase.trans hnoPhase)

end Sys2Proof.Machine
end

section
/-! PROOFS. The queue of a port after an event is posted (R166), and the beginning of RUN (R89, R176, R181). -/

namespace Sys2Proof.Machine

variable {s : State}

/-- The port that an event is posted to has received it (R166). -/
theorem State.enqueue_port_received (s : State) (p : Port) (e : Event) :
    (s.enqueue p e).port p = received (s.port p) e := s.enqueue_port_self p e

/-- An event enters a queue that has room. -/
theorem received_queue {r : PortRecord} {e : Event} (h : r.queue.length < 32) :
    received r e = { r with queue := r.queue ++ [e] } := if_pos h

/-- A line restarted where it is ENABLED: at ON_HOOK, with nothing counted (R89). -/
def restartedLine (x : Line) : Line :=
  if x.desc.admin = .enabled then { x with supervision := .onHook, parked := false, scan := .reset } else x

theorem restartedLine_idem (x : Line) : restartedLine (restartedLine x) = restartedLine x := by
  by_cases h : x.desc.admin = .enabled <;> simp [restartedLine, h]

theorem State.restartIfEnabled_line (s : State) (l k : Fin 32) :
    (s.restartIfEnabled l).line k = if k = l then restartedLine (s.line l) else s.line k := by
  unfold State.restartIfEnabled restartedLine
  split
  · exact s.modLine_line l k fun x => { x with supervision := .onHook, parked := false, scan := .reset }
  · split
    · next e => rw [e]
    · rfl

/-- A restart changes lines and findings alone. -/
theorem State.restartIfEnabled_eq (s : State) (l : Fin 32) :
    s.restartIfEnabled l =
      { s with lines := (s.restartIfEnabled l).lines, findings := (s.restartIfEnabled l).findings } := by
  unfold State.restartIfEnabled
  split <;> rfl

/-- Restarting several lines changes lines and findings alone. -/
theorem State.restartLines_eq (ls : List (Fin 32)) (s : State) :
    ls.foldl State.restartIfEnabled s =
      { s with
        lines := (ls.foldl State.restartIfEnabled s).lines
        findings := (ls.foldl State.restartIfEnabled s).findings } :=
  foldl_induction (P := fun t => t = { s with lines := t.lines, findings := t.findings }) _ ls s rfl fun t l ht => by
    rw [t.restartIfEnabled_eq l, ht]

/-- Restarting several lines restarts each of them that is ENABLED (R89). -/
theorem State.restartLines_line (ls : List (Fin 32)) (s : State) (k : Fin 32) :
    (ls.foldl State.restartIfEnabled s).line k = if k ∈ ls then restartedLine (s.line k) else s.line k := by
  induction ls generalizing s with
  | nil => rfl
  | cons l ls ih =>
    rw [List.foldl_cons, ih, State.restartIfEnabled_line]
    by_cases e : k = l
    · subst e
      simp [restartedLine_idem]
    · simp [e]

/-- Posting the held event posts to Port M alone and clears the flag (R176). -/
theorem State.postHeldCapture_eq (s : State) :
    s.postHeldCapture = { s with ports := s.postHeldCapture.ports, heldCapture := false } := by
  unfold State.postHeldCapture
  split
  · rfl
  · next h => rw [Bool.not_eq_true] at h; rw [← h]

@[simp] theorem State.postHeldCapture_lines (s : State) : s.postHeldCapture.lines = s.lines := by
  rw [s.postHeldCapture_eq]

/-- What Port M receives as RUN begins: START, and then the FAULT_CAPTURED that LOAD held (R181). -/
theorem State.postHeldCapture_port (s : State) (q : Port) :
    s.postHeldCapture.port q =
      if q = .m ∧ s.heldCapture = true then received (s.port .m) (s.capturedEvent .imageInvalid none none)
      else s.port q := by
  unfold State.postHeldCapture
  by_cases h : s.heldCapture = true
  · rw [if_pos h]
    by_cases e : q = .m
    · subst e
      rw [if_pos ⟨rfl, h⟩]
      exact s.enqueue_port_received .m _
    · rw [if_neg fun c => e c.1]
      exact s.enqueue_port_other _ e
  · rw [if_neg h, if_neg fun c => h c.2]

/-- How RUN begins once position and stamp are 0: the lines restart, then START and the held event (R181 steps 2 to 4). -/
def State.startUp (s : State) : State :=
  ((allLines.foldl State.restartIfEnabled s).enqueue .m s.startEvent).postHeldCapture

/-- START carries what the restarts leave as it was. -/
theorem State.startEvent_restartLines (ls : List (Fin 32)) (s : State) :
    (ls.foldl State.restartIfEnabled s).startEvent = s.startEvent := by
  rw [State.restartLines_eq]; rfl

theorem State.beginRun_eq (s : State) : s.beginRun = State.startUp { s with phase := .run, pos := 0, stamp := 0 } := by
  rw [State.beginRun, State.startUp, State.startEvent_restartLines]

theorem State.startUp_eq (s : State) :
    s.startUp =
      { s with
        lines := s.startUp.lines, findings := s.startUp.findings, ports := s.startUp.ports, heldCapture := false } := by
  have hrestart := State.restartLines_eq allLines s
  unfold State.startUp
  generalize allLines.foldl State.restartIfEnabled s = u at hrestart ⊢
  generalize u.lines = ls, u.findings = fs at hrestart
  subst hrestart
  rw [State.postHeldCapture_eq]
  rfl

theorem State.startUp_line (s : State) (l : Fin 32) : s.startUp.line l = restartedLine (s.line l) := by
  have h := State.restartLines_line allLines s l
  rw [if_pos (show l ∈ allLines from List.mem_finRange l)] at h
  rw [← h, State.startUp]
  exact State.line_congr (by rw [State.postHeldCapture_lines, State.enqueue_lines]) l

/-- The events of the beginning of RUN go to Port M alone. -/
theorem State.startUp_port (s : State) (q : Port) :
    s.startUp.port q =
      if q = .m then
        if s.heldCapture = true then
          received (received (s.port .m) s.startEvent) (s.capturedEvent .imageInvalid none none)
        else received (s.port .m) s.startEvent
      else s.port q := by
  have hrestart := State.restartLines_eq allLines s
  unfold State.startUp
  generalize allLines.foldl State.restartIfEnabled s = u at hrestart ⊢
  have hports (q : Port) : u.port q = s.port q := State.port_congr (by rw [hrestart]) q
  have hheld : (u.enqueue .m s.startEvent).heldCapture = s.heldCapture := by rw [State.enqueue_heldCapture, hrestart]
  have hevent : (u.enqueue .m s.startEvent).capturedEvent .imageInvalid none none =
      s.capturedEvent .imageInvalid none none := by
    rw [State.capturedEvent, State.enqueue_stamp, hrestart]; rfl
  rw [State.postHeldCapture_port, hheld, hevent, State.enqueue_port_received, hports]
  by_cases hq : q = .m
  · subst hq
    simp only [true_and, if_true]
    split
    · rfl
    · rw [State.enqueue_port_received, hports]
  · rw [if_neg hq, if_neg fun c => hq c.1, State.enqueue_port_other _ _ hq, hports]

/-- Settles O51: the walk over the lines restarts each ENABLED one, and Port M's empty queue takes both events. -/
theorem runBeginsWithStart : Obligations.RunBeginsWithStart := by
  intro s hp hq start invalid
  obtain ⟨v, hv⟩ : ∃ v : State, v = { s with phase := .run, pos := 0, stamp := 0 } := ⟨_, rfl⟩
  have hm : v.startUp.port .m =
      if s.heldCapture = true then received (received (s.port .m) start) invalid else received (s.port .m) start := by
    rw [v.startUp_port, if_pos rfl, hv]; rfl
  have hstart : received (s.port .m) start = { s.port .m with queue := [start] } := by
    rw [received_queue (by simp [hq]), hq]; rfl
  rw [hstart, received_queue (by simp)] at hm
  refine ⟨v.startUp, by rw [exec, execRun, if_pos hp, State.beginRun_eq, hv], ?_, fun l => ?_, ?_, ?_, fun q hne => ?_⟩
  · rw [v.startUp_eq, hv]
  · rw [v.startUp_line, hv]; rfl
  · rw [hm]; split <;> rfl
  · rw [hm]; split <;> rfl
  · rw [v.startUp_port, if_neg hne, hv]; rfl

end Sys2Proof.Machine
end

section
/-! PROOFS. What a request taken in RUN is answered (R160 to R162), and WRITE_PATTERN's checks and effect (R26). -/

namespace Sys2Proof.Machine

variable {s t : State}

/-! ### Answered requests -/

/-- An answer from a state whose ports are those of `s` answers, and touches no queue. -/
theorem answers_answer (ht : t.ports = s.ports) (p : Port) (tag kind : Byte) (args : List Byte) (st : Status)
    (payload : List Byte) :
    Answers s (t.answer p tag kind args st payload) p (tag :: kind :: args) (responseBody tag kind st payload) := by
  have hport (q : Port) : t.port q = s.port q := State.port_congr ht q
  have hself := t.answer_port_self p tag kind args st payload
  refine ⟨⟨by rw [hself], by rw [hself], by rw [hself, hport], fun q hq => ?_⟩, fun q => ?_⟩
  · rw [t.answer_port_other tag kind args st payload hq, hport]
    exact ⟨rfl, rfl, rfl⟩
  · by_cases hq : q = p
    · subst hq
      rw [hself, hport]
      exact ⟨rfl, rfl⟩
    · rw [t.answer_port_other tag kind args st payload hq, hport]
      exact ⟨rfl, rfl⟩

section
variable {k : Kind} {p : Port} {tag : Byte} {args : List Byte} {h : State → Reply} {c : Instr}

/-- A permitted request of a port in service that has room is answered with its reply. -/
theorem exec_answered (hc : exec c s = .next (request k p tag args h s)) (hr : Ready s p)
    (hp : permitted k p = true) (hs : s.inService p = true) :
    exec c s = .next ((h s).state.answer p tag k.code args (h s).status (h s).payload) := by
  rw [hc, request_run h hr.1 (State.accepts_of_empty hr.2 _) hp (.inl hs)]

/-- A request whose reply refuses is answered with the refusal alone. -/
theorem refuses_of_reply {st : Status} (hc : exec c s = .next (request k p tag args h s)) (hr : Ready s p)
    (hp : permitted k p = true) (hs : s.inService p = true) (hh : h s = refuse s st) :
    Refuses c s p tag k.code args (statusCode st) := by
  refine ⟨_, exec_answered hc hr hp hs, ?_⟩
  rw [hh]
  exact ⟨rfl, answers_answer rfl p tag k.code args st []⟩

end

/-! ### WRITE_PATTERN's arguments -/

theorem argBelow_eq_none_iff {n : Nat} {b : Byte} : argBelow n b = none ↔ n ≤ b.toNat := by
  simp [argBelow]

theorem argBelow_eq_some {n : Nat} {b : Byte} {k : Fin n} (h : k.val = b.toNat) : argBelow n b = some k := by
  simp [argBelow, ← h]

/-- The counted bursts of a WRITE_PATTERN (R26). -/
def countedBursts (count on1 off1 on2 off2 on3 off3 on4 off4 : Byte) : List Burst :=
  [⟨on1.toNat, off1.toNat⟩, ⟨on2.toNat, off2.toNat⟩, ⟨on3.toNat, off3.toNat⟩, ⟨on4.toNat, off4.toNat⟩].take count.toNat

theorem burstsInRange_iff {bursts : List Burst} :
    burstsInRange bursts = true ↔ ∀ b ∈ bursts, 2 ≤ b.on ∧ b.on ≤ 20 ∧ b.off ≤ 58 := by
  simp [burstsInRange]

theorem burstsWithinSums_iff {bursts : List Burst} :
    burstsWithinSums bursts = true ↔ (bursts.map fun b => b.on + b.off).sum ≤ 60 ∧ (bursts.map (·.on)).sum ≤ 30 := by
  rw [burstsWithinSums, Bool.and_eq_true, decide_eq_true_iff, decide_eq_true_iff]

theorem burstsWithinSums_eq_false_iff {bursts : List Burst} :
    burstsWithinSums bursts = false ↔ 60 < (bursts.map fun b => b.on + b.off).sum ∨ 30 < (bursts.map (·.on)).sum := by
  rw [← Bool.not_eq_true, burstsWithinSums_iff, not_and_or, not_le, not_le]

section
variable {count on1 off1 on2 off2 on3 off3 on4 off4 : Byte}

/-- The bursts that WRITE_PATTERN writes are the counted ones, where their number and lengths are in range. -/
theorem writtenBursts_eq_some (h1 : 1 ≤ count.toNat) (h4 : count.toNat ≤ 4)
    (hb : burstsInRange (countedBursts count on1 off1 on2 off2 on3 off3 on4 off4) = true) :
    writtenBursts count on1 off1 on2 off2 on3 off3 on4 off4 =
      some (countedBursts count on1 off1 on2 off2 on3 off3 on4 off4) := by
  unfold writtenBursts
  dsimp only
  rw [List.map_take]
  exact if_pos ⟨h1, h4, hb⟩

theorem writtenBursts_eq_none
    (h : ¬(1 ≤ count.toNat ∧ count.toNat ≤ 4 ∧
      burstsInRange (countedBursts count on1 off1 on2 off2 on3 off3 on4 off4) = true)) :
    writtenBursts count on1 off1 on2 off2 on3 off3 on4 off4 = none := by
  unfold writtenBursts
  dsimp only
  rw [List.map_take]
  exact if_neg h

end

/-- A party below the count has the station at its place in the line's range (R4). -/
theorem stationIndex_eq_some_iff {d : Descriptor} {y : Fin 8} {i : Fin 192} :
    stationIndex d y = some i ↔ y.val < d.count ∧ i.val = d.base.val + y.val := by
  simp only [stationIndex, Option.dite_none_right_eq_some, Option.some.injEq, Fin.ext_iff]
  exact ⟨fun ⟨h, e⟩ => ⟨h.1, e.symm⟩, fun ⟨h, e⟩ => ⟨⟨h, e ▸ i.isLt⟩, e.symm⟩⟩

/-- A party uses the pattern of the station that it has. -/
theorem State.partyUsesPattern_iff {l : Fin 32} {y : Fin 8} {k : Fin 16} :
    s.partyUsesPattern l y k = true ↔
      ∃ i : Fin 192, y.val < (s.line l).desc.count ∧ i.val = (s.line l).desc.base.val + y.val ∧
        (s.station i).pattern = k := by
  simp only [← and_assoc, ← stationIndex_eq_some_iff]
  unfold State.partyUsesPattern
  split
  · next i hi => simp [hi]
  · next hn => simp [hn]

/-- A pattern is in use where a job holds it or a revert's party names it (R26). -/
theorem State.patternInUse_iff {k : Fin 16} :
    s.patternInUse k = true ↔ (∃ j ∈ s.jobs, j.pattern = some k) ∨
      ∃ r ∈ s.reverts, ∃ (y : Fin 8) (i : Fin 192), (y = r.caller ∨ y = r.called) ∧
        y.val < (s.line r.line).desc.count ∧ i.val = (s.line r.line).desc.base.val + y.val ∧
        (s.station i).pattern = k := by
  simp only [State.patternInUse, Bool.or_eq_true, List.any_eq_true, beq_iff_eq, State.partyUsesPattern_iff]
  refine or_congr Iff.rfl (exists_congr fun r => and_congr_right fun _ => ?_)
  constructor
  · rintro (⟨i, h⟩ | ⟨i, h⟩)
    · exact ⟨r.caller, i, .inl rfl, h⟩
    · exact ⟨r.called, i, .inr rfl, h⟩
  · rintro ⟨y, i, rfl | rfl, h⟩
    · exact .inl ⟨i, h⟩
    · exact .inr ⟨i, h⟩

/-! ### WRITE_PATTERN -/

/-- The checks of WRITE_PATTERN from the second on, in their order (R26). -/
theorem writePatternRefusal_cases (k : Fin 16) (bursts : List Burst) (s : State) :
    (s.save.isSome = true → writePatternRefusal k bursts s = some .saveBusy) ∧
    (s.save = none → s.patternInUse k = true → writePatternRefusal k bursts s = some .inUse) ∧
    (s.save = none → s.patternInUse k = false → burstsWithinSums bursts = false →
      writePatternRefusal k bursts s = some .badPattern) ∧
    (s.save = none → s.patternInUse k = false → burstsWithinSums bursts = true →
      writePatternRefusal k bursts s = none) := by
  unfold writePatternRefusal State.saving
  refine ⟨fun h => by simp [h], fun h hu => by simp [h, hu], fun h hu hb => by simp [h, hu, hb],
    fun h hu hb => by simp [h, hu, hb]⟩

section
variable {pattern count on1 off1 on2 off2 on3 off3 on4 off4 : Byte} {k : Fin 16} {bursts : List Burst} {st : Status}

theorem writePatternReply_badArgument
    (h : argPattern pattern = none ∨ writtenBursts count on1 off1 on2 off2 on3 off3 on4 off4 = none) :
    writePatternReply pattern count on1 off1 on2 off2 on3 off3 on4 off4 s = refuse s .badArgument := by
  unfold writePatternReply
  split
  · next hk hb => simp [hk, hb] at h
  · rfl

theorem writePatternReply_refused (hk : argPattern pattern = some k)
    (hb : writtenBursts count on1 off1 on2 off2 on3 off3 on4 off4 = some bursts)
    (hr : writePatternRefusal k bursts s = some st) :
    writePatternReply pattern count on1 off1 on2 off2 on3 off3 on4 off4 s = refuse s st := by
  simp only [writePatternReply, hk, hb, hr]

theorem writePatternReply_accepted (hk : argPattern pattern = some k)
    (hb : writtenBursts count on1 off1 on2 off2 on3 off3 on4 off4 = some bursts)
    (hr : writePatternRefusal k bursts s = none) :
    writePatternReply pattern count on1 off1 on2 off2 on3 off3 on4 off4 s =
      ⟨s.setPattern k ⟨bursts⟩, .ok, patternBytes ⟨bursts⟩⟩ := by
  simp only [writePatternReply, hk, hb, hr]

end

/-- Settles O24: the reply of WRITE_PATTERN in each case of its checks, sent as every reply is. -/
theorem writePatternChecksAndStores : Obligations.WritePatternChecksAndStores := by
  intro s tag pattern count on1 off1 on2 off2 on3 off3 on4 off4 hready args c bursts inRange
  have hc : exec c s = .next (request .writePattern .m tag args
      (writePatternReply pattern count on1 off1 on2 off2 on3 off3 on4 off4) s) := rfl
  have hrefuse {st : Status}
      (h : writePatternReply pattern count on1 off1 on2 off2 on3 off3 on4 off4 s = refuse s st) :
      Refuses c s .m tag 0x17 args (statusCode st) := refuses_of_reply hc hready rfl rfl h
  refine ⟨fun hout => hrefuse (writePatternReply_badArgument ?_), fun hin k hk => ?_⟩
  · by_cases hp : pattern.toNat ≤ 15
    · exact .inr (writtenBursts_eq_none fun ⟨h1, h4, hb⟩ => hout ⟨hp, h1, h4, burstsInRange_iff.1 hb⟩)
    · exact .inl (argBelow_eq_none_iff.2 (not_le.1 hp))
  intro used
  obtain ⟨hp, h1, h4, hb⟩ := hin
  have hkarg : argPattern pattern = some k := argBelow_eq_some hk
  have hbursts := writtenBursts_eq_some h1 h4 (burstsInRange_iff.2 hb)
  have hused : s.patternInUse k = true ↔ used := State.patternInUse_iff
  obtain ⟨hbusy, hinUse, hbad, hok⟩ := writePatternRefusal_cases k bursts s
  refine ⟨fun hs => hrefuse (writePatternReply_refused hkarg hbursts (hbusy hs)),
    fun hs hu => hrefuse (writePatternReply_refused hkarg hbursts (hinUse hs (hused.2 hu))),
    fun hs hu hsum => hrefuse (writePatternReply_refused hkarg hbursts
      (hbad hs (Bool.eq_false_iff.2 (mt hused.1 hu)) (burstsWithinSums_eq_false_iff.2 hsum))),
    fun hs hu hlen hon => ?_⟩
  have hsums : burstsWithinSums bursts = true := burstsWithinSums_iff.2 ⟨hlen, hon⟩
  have hreply := writePatternReply_accepted hkarg hbursts (hok hs (Bool.eq_false_iff.2 (mt hused.1 hu)) hsums)
  have hexec := exec_answered hc hready rfl rfl
  rw [hreply] at hexec
  exact ⟨_, hexec, rfl, s.setPattern_pattern_self k _, fun n hn => s.setPattern_pattern_other _ hn,
    answers_answer rfl .m tag 0x17 args .ok (patternBytes ⟨bursts⟩)⟩

end Sys2Proof.Machine
end

section
/-! PROOFS. WRITE_FEED's checks and effect, the victims of shedding and what a shed does (R33, R40, R41, R43, R124,
R128). -/

namespace Sys2Proof.Machine

variable {s : State}

/-! ### The victims of shedding (R40) -/

/-- Rounds beyond the reservations shed nothing more. -/
theorem State.shedLoop_fuel (f : Feed) (n : Nat) (h : s.placedCount ≤ n) : s.shedLoop f (n + 1) = s.shedLoop f n := by
  induction n generalizing s with
  | zero =>
    unfold State.shedLoop
    split
    · rfl
    · next j hv =>
      have := State.placedCount_shed (State.victim_placed hv).1 (State.victim_placed hv).2
      omega
  | succ n ih =>
    rw [State.shedLoop]
    conv_rhs => rw [State.shedLoop]
    split
    · rfl
    · next j hv =>
      have := State.placedCount_shed (State.victim_placed hv).1 (State.victim_placed hv).2
      exact ih (by omega)

/-- Shedding starts with the victim. -/
theorem State.shedFeed_of_victim {f : Feed} {j : Job} (hv : s.victim f = some j) :
    s.shedFeed f = (s.shed j.line).shedFeed f := by
  obtain ⟨hj, hp⟩ := State.victim_placed hv
  have hlen : (s.shed j.line).jobs.length = s.jobs.length := s.modJob_length j.line s.shedJob
  obtain ⟨n, hn⟩ : ∃ n, s.jobs.length = n + 1 := Nat.exists_eq_succ_of_ne_zero (List.length_pos_of_mem hj).ne'
  have hcount := State.placedCount_shed hj hp
  have hle := s.placedCount_le
  calc s.shedFeed f = s.shedLoop f (n + 1) := by rw [State.shedFeed, hn]
    _ = (s.shed j.line).shedLoop f n := by simp only [State.shedLoop, hv]
    _ = (s.shed j.line).shedLoop f (n + 1) := (State.shedLoop_fuel f n (by omega)).symm
    _ = (s.shed j.line).shedFeed f := by rw [State.shedFeed, hlen, hn]

/-- Shedding changes nothing where no position is overloaded. -/
theorem State.shedFeed_of_overloaded {f : Feed} (h : s.overloaded f = []) : s.shedFeed f = s := by
  have hnone : s.jobs.filter (s.shedCandidate f) = [] := List.filter_eq_nil_iff.2 (by simp [State.shedCandidate, h])
  have hv : s.victim f = none := by rw [State.victim, hnone]; rfl
  unfold State.shedFeed
  cases s.jobs.length with
  | zero => rfl
  | succ n => simp only [State.shedLoop, hv]

/-- Of candidates in arrival order the victim is the latest of the lowest class. -/
theorem foldl_laterVictim_eq {earlier later : List Job} {j : Job} (he : ∀ x ∈ earlier, j.cls ≤ x.cls)
    (hl : ∀ x ∈ later, j.cls < x.cls) : (earlier ++ j :: later).foldl laterVictim none = some j := by
  have hj : laterVictim (earlier.foldl laterVictim none) j = some j := by
    unfold laterVictim
    split
    · rfl
    · next b hb =>
      have hm : b ∈ earlier := (foldl_laterVictim_mem hb).resolve_right (by simp)
      rw [if_pos (he b hm)]
  have hrest : ∀ xs : List Job, (∀ x ∈ xs, j.cls < x.cls) → xs.foldl laterVictim (some j) = some j := by
    intro xs
    induction xs with
    | nil => exact fun _ => rfl
    | cons x xs ih =>
      intro hx
      have hstep : laterVictim (some j) x = some j := if_neg (not_le.2 (hx x (by simp)))
      rw [List.foldl_cons, hstep]
      exact ih fun y hy => hx y (List.mem_cons_of_mem _ hy)
  rw [List.foldl_append, List.foldl_cons, hj, hrest later hl]

/-- The victim is the candidate than which no earlier one has a lower class and every later one a higher. -/
theorem State.victim_eq {f : Feed} {earlier later : List Job} {j : Job} (hs : s.jobs = earlier ++ j :: later)
    (hj : s.shedCandidate f j = true) (he : ∀ x ∈ earlier, s.shedCandidate f x = true → j.cls ≤ x.cls)
    (hl : ∀ x ∈ later, s.shedCandidate f x = true → j.cls < x.cls) : s.victim f = some j := by
  rw [State.victim, hs, List.filter_append, List.filter_cons_of_pos hj]
  exact foldl_laterVictim_eq (fun x hx => he x (List.mem_filter.1 hx).1 (List.mem_filter.1 hx).2)
    fun x hx => hl x (List.mem_filter.1 hx).1 (List.mem_filter.1 hx).2

/-- A job rings at the positions of its pattern's on-set at its phase (R30). -/
theorem State.mem_jobTicks {j : Job} {x : Nat} :
    x ∈ s.jobTicks j ↔ ∃ (n : Fin 16) (ph : Fin 12), j.pattern = some n ∧ j.phase = some ph ∧
      ∃ u ∈ onSet (s.pattern n), x = (u + 5 * ph.val) % 60 := by
  unfold State.jobTicks
  split
  · next k ph hk hph => simp [hk, hph, absoluteOnSet, eq_comm]
  · next hno =>
    refine iff_of_false List.not_mem_nil ?_
    rintro ⟨n, ph, hn, hph, -⟩
    exact hno n ph hn hph

/-- A candidate for shedding, its overloaded position below 60 (R40 step 2). -/
theorem State.shedCandidate_iff_position {f : Feed} {j : Job} :
    s.shedCandidate f j = true ↔
      (j.state = .placed ∨ j.state = .ringing) ∧ j.current = some f ∧
        ∃ t : Fin 60, s.effectiveCapacity f < s.profile f t.val ∧
          ∃ (n : Fin 16) (ph : Fin 12), j.pattern = some n ∧ j.phase = some ph ∧
            ∃ u ∈ onSet (s.pattern n), t.val = (u + 5 * ph.val) % 60 := by
  rw [State.shedCandidate_iff, Job.placed_iff]
  refine and_congr_right fun _ => and_congr_right fun _ => ?_
  constructor
  · rintro ⟨x, hx, hj⟩
    obtain ⟨h60, hover⟩ := State.mem_overloaded.1 hx
    exact ⟨⟨x, h60⟩, hover, State.mem_jobTicks.1 hj⟩
  · rintro ⟨t, hover, hj⟩
    exact ⟨t.val, State.mem_overloaded.2 ⟨t.isLt, hover⟩, State.mem_jobTicks.2 hj⟩

/-- No position of a feed is overloaded. -/
theorem State.overloaded_eq_nil_iff {f : Feed} :
    s.overloaded f = [] ↔ ∀ t : Fin 60, ¬s.effectiveCapacity f < s.profile f t.val := by
  rw [List.eq_nil_iff_forall_not_mem]
  simp only [State.mem_overloaded, not_and]
  exact ⟨fun h t => h t.val t.isLt, fun h x hx => h ⟨x, hx⟩⟩

/-! ### What a shed does (R41, R124) -/

/-- The job of a shed line is the shed job, any other job as it was. -/
theorem State.shed_job? (s : State) (l k : Fin 32) :
    (s.shed l).job? k = if k = l then (s.job? k).map s.shedJob else s.job? k :=
  s.modJob_job? l k s.shedJob s.shedJob_line

/-- A shed cuts the drive of its line. -/
theorem State.shed_line (s : State) (l k : Fin 32) :
    (s.shed l).line k = if k = l then { s.line l with drive := none } else s.line k :=
  s.modLine_line l k fun x => { x with drive := none }

/-- A shed job stays on its feed, unless it stands on FB and its home feed is GOOD. -/
theorem State.shedJob_stays {j : Job} (h : j.current ≠ some .fb ∨ ∀ b, j.home = some b → (s.feed b).state ≠ .good) :
    s.shedJob j =
      { j with state := .waiting, phase := none, waitTimer := 0, shedCount := min (j.shedCount + 1) 255 } := by
  unfold State.shedJob
  cases hb : j.home with
  | none => rfl
  | some b =>
    dsimp only
    rw [if_neg]
    rintro ⟨hc, hg⟩
    rcases h with h | h
    · exact h hc
    · exact h b hb hg

/-- A shed job leaves FB where its home feed is GOOD (R124). -/
theorem State.shedJob_returns {j : Job} {b : Feed} (hc : j.current = some .fb) (hb : j.home = some b)
    (hg : (s.feed b).state = .good) :
    s.shedJob j =
      { j with
        state := .waiting, phase := none, waitTimer := 0, shedCount := min (j.shedCount + 1) 255, current := some b } := by
  unfold State.shedJob
  rw [hb]
  dsimp only
  rw [if_pos ⟨hc, hg⟩]

/-! ### WRITE_FEED's arguments and checks (R128) -/

theorem argFeed_eq_some_iff {b : Byte} {f : Feed} : argFeed b = some f ↔ feedCode f = b := by
  constructor
  · unfold argFeed
    repeat' split
    all_goals rintro ⟨⟩
    all_goals next h => exact h.symm
  · rintro rfl
    cases f <;> rfl

theorem argYes_eq_some_iff {b : Byte} {v : Bool} : argYes b = some v ↔ yesCode v = b := by
  constructor
  · unfold argYes
    repeat' split
    all_goals rintro ⟨⟩
    all_goals next h => exact h.symm
  · rintro rfl
    cases v <;> rfl

theorem feedCode_eq_four_iff {f : Feed} : feedCode f = 4 ↔ f = .fb := by cases f <;> decide

theorem yesCode_eq_one_iff {v : Bool} : yesCode v = 1 ↔ v = true := by cases v <;> decide

/-- A byte of 0 or 1 spells a flag. -/
theorem yesCode_beq_one {b : Byte} (h : b.toNat ≤ 1) : yesCode (b == 1) = b := by
  obtain rfl | rfl : b = 0 ∨ b = 1 := by bv_omega
  · rfl
  · rfl

section
variable {feed freq fallback : Byte} {capacity : BitVec 16} {f : Feed} {b : Bool} {n : Nat} {st : Status}

/-- The checks of WRITE_FEED from the second on, in their order (R128). -/
theorem writeFeedRefusal_cases (f : Feed) (n : Nat) (b : Bool) (s : State) :
    (s.save.isSome = true → writeFeedRefusal f n b s = some .saveBusy) ∧
    (s.save = none →
      ((n ≠ (s.feed f).freq ∧ ∃ j ∈ s.jobs, j.current = some f) ∨
        ((s.feed f).fallback = true ∧ b = false ∧ ∃ j ∈ s.jobs, j.home = some f ∧ j.current = some .fb)) →
      writeFeedRefusal f n b s = some .inUse) ∧
    (s.save = none →
      ¬((n ≠ (s.feed f).freq ∧ ∃ j ∈ s.jobs, j.current = some f) ∨
        ((s.feed f).fallback = true ∧ b = false ∧ ∃ j ∈ s.jobs, j.home = some f ∧ j.current = some .fb)) →
      writeFeedRefusal f n b s = none) := by
  have hfreq : (s.jobs.any fun j => j.current == some f) = true ↔ ∃ j ∈ s.jobs, j.current = some f := by simp
  have hback : (s.jobs.any fun j => j.home == some f && j.current == some .fb) = true ↔
      ∃ j ∈ s.jobs, j.home = some f ∧ j.current = some .fb := by simp
  unfold writeFeedRefusal State.saving
  rw [← hfreq, ← hback]
  refine ⟨fun h => if_pos h, fun h hu => ?_, fun h hu => ?_⟩
  · rw [if_neg (by simp [h])]
    split
    · rfl
    · next hn => rw [if_pos (hu.resolve_left hn)]
  · rw [if_neg (by simp [h]), if_neg (not_or.1 hu).1, if_neg (not_or.1 hu).2]

theorem writeFeedReply_badArgument (h : ∀ f b, argFeed feed = some f → argYes fallback = some b →
      5 < freq.toNat ∨ (f = .fb ∧ b = true)) :
    writeFeedReply feed freq capacity fallback s = refuse s .badArgument := by
  unfold writeFeedReply
  split
  · next f b hf hb => rw [if_pos (h f b hf hb)]
  · rfl

/-- A feed, frequency or flag outside its codes, or fallback on FB, is a BAD_ARGUMENT. -/
theorem writeFeedReply_outOfRange
    (h : ¬(feed.toNat ≤ 4 ∧ freq.toNat ≤ 5 ∧ fallback.toNat ≤ 1 ∧ ¬(feed = 4 ∧ fallback = 1))) :
    writeFeedReply feed freq capacity fallback s = refuse s .badArgument := by
  refine writeFeedReply_badArgument fun f b hf hb => ?_
  obtain rfl := argFeed_eq_some_iff.1 hf
  obtain rfl := argYes_eq_some_iff.1 hb
  by_contra hno
  obtain ⟨hfreq, hfb⟩ := not_or.1 hno
  have hfeed : (feedCode f).toNat ≤ 4 := by cases f <;> decide
  have hyes : (yesCode b).toNat ≤ 1 := by cases b <;> decide
  refine h ⟨hfeed, not_lt.1 hfreq, hyes, fun ⟨h4, h1⟩ => hfb ⟨?_, ?_⟩⟩
  · exact feedCode_eq_four_iff.1 h4
  · exact yesCode_eq_one_iff.1 h1

theorem writeFeedReply_refused (hf : argFeed feed = some f) (hb : argYes fallback = some b)
    (hn : ¬(5 < freq.toNat ∨ (f = .fb ∧ b = true))) (hr : writeFeedRefusal f freq.toNat b s = some st) :
    writeFeedReply feed freq capacity fallback s = refuse s st := by
  simp only [writeFeedReply, hf, hb, if_neg hn, hr]

theorem writeFeedReply_accepted (hf : argFeed feed = some f) (hb : argYes fallback = some b)
    (hn : ¬(5 < freq.toNat ∨ (f = .fb ∧ b = true))) (hr : writeFeedRefusal f freq.toNat b s = none) :
    writeFeedReply feed freq capacity fallback s =
      ⟨s.writeFeed f freq.toNat capacity.toNat b, .ok,
        writeFeedPayload (s.writeFeed f freq.toNat capacity.toNat b) f⟩ := by
  simp only [writeFeedReply, hf, hb, if_neg hn, hr]

end

/-! ### What an accepted WRITE_FEED stores (R43) -/

theorem saturateCapacity_eq (f : Feed) (n : Nat) : saturateCapacity f n = min n (if f = .fb then 200 else 600) := by
  cases f <;> rfl

/-- The feed's record as an accepted WRITE_FEED stores it. -/
def State.storeFeed (s : State) (f : Feed) (n c : Nat) (b : Bool) : State :=
  s.modFeed f fun x => { x with freq := n, capacity := c, fallback := b }

/-- The record stored, and the feed shed where its effective capacity fell. -/
def State.storeAndShed (s : State) (f : Feed) (n c : Nat) (b : Bool) : State :=
  if c * derating s.battery.level / 100 < (s.feed f).capacity * derating s.battery.level / 100 then
    (s.storeFeed f n c b).shedFeed f
  else s.storeFeed f n c b

/-- An accepted WRITE_FEED stores, sheds and runs one pass. -/
theorem State.writeFeed_eq (s : State) (f : Feed) (n c : Nat) (b : Bool) :
    s.writeFeed f n c b = (s.storeAndShed f n (saturateCapacity f c) b).pass := by
  have hcap : (s.storeFeed f n (saturateCapacity f c) b).effectiveCapacity f =
      saturateCapacity f c * derating s.battery.level / 100 := by
    rw [State.effectiveCapacity, State.storeFeed, State.modFeed_feed_self]; rfl
  unfold State.storeAndShed
  rw [← hcap]
  rfl

theorem ShedFrom.storeAndShed (s : State) (f : Feed) (n c : Nat) (b : Bool) :
    ShedFrom (s.storeFeed f n c b) (s.storeAndShed f n c b) := by
  unfold State.storeAndShed
  split
  · exact .shedFeed _ f
  · exact .refl _

/-- Storing and shedding changes feeds, lines and jobs alone. -/
theorem State.storeAndShed_eq (s : State) (f : Feed) (n c : Nat) (b : Bool) :
    s.storeAndShed f n c b =
      { s with
        feeds := (s.storeFeed f n c b).feeds, lines := (s.storeAndShed f n c b).lines
        jobs := (s.storeAndShed f n c b).jobs } :=
  (ShedFrom.storeAndShed s f n c b).rest

/-- It leaves each line as it was, or with its drive cut. -/
theorem State.storeAndShed_line (s : State) (f : Feed) (n c : Nat) (b : Bool) (l : Fin 32) :
    (s.storeAndShed f n c b).line l = s.line l ∨
      (s.storeAndShed f n c b).line l = { s.line l with drive := none } :=
  (ShedFrom.storeAndShed s f n c b).lines l

theorem State.storeAndShed_feed (s : State) (f g : Feed) (n c : Nat) (b : Bool) :
    (s.storeAndShed f n c b).feed g =
      if g = f then { s.feed f with freq := n, capacity := c, fallback := b } else s.feed g := by
  have h : (s.storeAndShed f n c b).feed g = (s.storeFeed f n c b).feed g :=
    State.feed_congr (by rw [State.storeAndShed_eq]) g
  rw [h, State.storeFeed]
  split
  · next e => subst e; exact s.modFeed_feed_self g _
  · next e => exact s.modFeed_feed_other _ e

/-- What an accepted WRITE_FEED leaves as it was, and the records and lines after it. -/
structure FeedWritten (s u : State) (f : Feed) (n c : Nat) (b : Bool) : Prop where
  rest : u = { s with feeds := u.feeds, lines := u.lines, jobs := u.jobs }
  feed : u.feed f = { s.feed f with freq := n, capacity := c, fallback := b }
  others : ∀ g, g ≠ f → u.feed g = s.feed g
  jobLines : u.jobs.map (·.line) = s.jobs.map (·.line)
  lines : ∀ l, u.line l = s.line l ∨ u.line l = { s.line l with drive := none }

theorem FeedWritten.storeAndShed (s : State) (f : Feed) (n c : Nat) (b : Bool) :
    FeedWritten s (s.storeAndShed f n c b) f n c b where
  rest := by
    have h := s.storeAndShed_eq f n c b
    generalize s.storeAndShed f n c b = v at h ⊢
    generalize v.lines = ls, v.jobs = js at h
    subst h
    rfl
  feed := by rw [State.storeAndShed_feed, if_pos rfl]
  others g hg := by rw [State.storeAndShed_feed, if_neg hg]
  jobLines := (ShedFrom.storeAndShed s f n c b).jobLines
  lines := s.storeAndShed_line f n c b

/-- A pass moves none of these. -/
theorem FeedWritten.pass {u : State} {f : Feed} {n c : Nat} {b : Bool} (h : FeedWritten s u f n c b) :
    FeedWritten s u.pass f n c b where
  rest := by
    obtain ⟨hrest, -, -, -, -⟩ := h
    rw [u.pass_eq]
    generalize u.pass.jobs = js
    generalize u.feeds = fs, u.lines = ls, u.jobs = js' at hrest
    subst hrest
    rfl
  feed := by rw [State.feed_congr u.pass_feeds]; exact h.feed
  others g hg := by rw [State.feed_congr u.pass_feeds]; exact h.others g hg
  jobLines := u.pass_jobLines.trans h.jobLines
  lines l := by rw [State.line_congr u.pass_lines]; exact h.lines l

/-- Answering changes the ports alone. -/
theorem FeedWritten.answer_rest {u : State} {f : Feed} {n c : Nat} {b : Bool} (h : FeedWritten s u f n c b) (p : Port)
    (tag kind : Byte) (args : List Byte) (st : Status) (payload : List Byte) :
    u.answer p tag kind args st payload =
      { s with
        ports := (u.answer p tag kind args st payload).ports, feeds := (u.answer p tag kind args st payload).feeds
        lines := (u.answer p tag kind args st payload).lines, jobs := (u.answer p tag kind args st payload).jobs } := by
  obtain ⟨hrest, -, -, -, -⟩ := h
  rw [State.answer_eq]
  generalize (u.answer p tag kind args st payload).ports = ps
  generalize u.feeds = fs, u.lines = ls, u.jobs = js at hrest
  subst hrest
  rfl

theorem FeedWritten.payload {u : State} {f : Feed} {n c : Nat} {b : Bool} (h : FeedWritten s u f n c b) :
    writeFeedPayload u f =
      feedBytes f (u.feed f) ++ wordBytes c ++ wordBytes (c * derating s.battery.level / 100) := by
  have hlevel : u.battery.level = s.battery.level := by rw [h.rest]
  have hcap : (u.feed f).capacity = c := by rw [h.feed]
  rw [writeFeedPayload, State.effectiveCapacity, hcap, hlevel]

/-- Settles O25: WRITE_FEED by the cases of its reply, the victims by the walk over the candidates, and a shed by its
job. -/
theorem writeFeedChecksAndStores : Obligations.WriteFeedChecksAndStores := by
  refine ⟨fun s tag feed freq capacity fallback hready => ?_, fun s f => ?_, fun s l j hj => ?_⟩
  · intro args c inRange
    have hc : exec c s =
        .next (request .writeFeed .m tag args (writeFeedReply feed freq capacity fallback) s) := rfl
    have hrefuse {st : Status} (h : writeFeedReply feed freq capacity fallback s = refuse s st) :
        Refuses c s .m tag 0x18 args (statusCode st) := refuses_of_reply hc hready rfl rfl h
    refine ⟨fun hout => hrefuse (writeFeedReply_outOfRange hout), fun ⟨_, hfreq, hyes, hfb⟩ f hf => ?_⟩
    intro used stored
    have hfarg : argFeed feed = some f := argFeed_eq_some_iff.2 hf
    have hbarg : argYes fallback = some (fallback == 1) := argYes_eq_some_iff.2 (yesCode_beq_one hyes)
    have hrange : ¬(5 < freq.toNat ∨ (f = .fb ∧ (fallback == 1) = true)) := by
      rintro (h | ⟨rfl, h1⟩)
      · omega
      · exact hfb ⟨hf.symm, by simpa using h1⟩
    have hzero : (fallback == 1) = false ↔ fallback = 0 := by
      rw [beq_eq_false_iff_ne]
      constructor <;> intro h <;> bv_omega
    obtain ⟨hbusy, hinUse, hok⟩ := writeFeedRefusal_cases f freq.toNat (fallback == 1) s
    rw [hzero] at hinUse hok
    refine ⟨fun hs => hrefuse (writeFeedReply_refused hfarg hbarg hrange (hbusy hs)),
      fun hs hu => hrefuse (writeFeedReply_refused hfarg hbarg hrange (hinUse hs hu)), fun hs hu => ?_⟩
    have hexec := exec_answered hc hready rfl rfl
    rw [writeFeedReply_accepted hfarg hbarg hrange (hok hs hu)] at hexec
    have hwritten := (FeedWritten.storeAndShed s f freq.toNat stored (fallback == 1)).pass
    have hstate : s.writeFeed f freq.toNat capacity.toNat (fallback == 1) =
        (s.storeAndShed f freq.toNat stored (fallback == 1)).pass := by
      rw [State.writeFeed_eq, saturateCapacity_eq]
    rw [hstate, hwritten.payload] at hexec
    refine ⟨_, hexec, ?_, hwritten.feed, hwritten.others, hwritten.jobLines, hwritten.lines, ⟨rfl, ?_⟩,
      answers_answer ?_ .m tag 0x18 args .ok _⟩
    · exact hwritten.answer_rest .m tag 0x18 args .ok _
    · exact State.pass_lines _
    · rw [hwritten.rest]
  · intro k overloaded candidate
    have hcand (x : Job) : s.shedCandidate f x = true ↔ candidate x := State.shedCandidate_iff_position
    exact ⟨fun h => State.shedFeed_of_overloaded (State.overloaded_eq_nil_iff.2 h),
      fun earlier later j hs hj he hl => State.shedFeed_of_victim (State.victim_eq hs ((hcand j).2 hj)
        (fun x hx hc => he x hx ((hcand x).1 hc)) fun x hx hc => hl x hx ((hcand x).1 hc))⟩
  · have hjob : (s.shed l).job? l = some (s.shedJob j) := by rw [State.shed_job?, if_pos rfl, hj]; rfl
    refine ⟨s.shed_eq l, by rw [State.shed_line, if_pos rfl], fun k hk => by rw [State.shed_line, if_neg hk],
      s.shed_jobLines l, fun k hk => by rw [State.shed_job?, if_neg hk], fun h => ?_, fun b hc hb hg => ?_⟩
    · rw [hjob, State.shedJob_stays h]
    · rw [hjob, State.shedJob_returns hc hb hg]

end Sys2Proof.Machine
end

section
/-! PROOFS. A level change: what the fourth reading of a run does (R42, R134, R135), and where the events of a post and of
a capture go (R155, R172, R173). -/

namespace Sys2Proof.Machine

variable {s t : State}

/-! ### Posting and capturing -/

/-- What a port holds after an event was posted to a port, or was not. -/
theorem State.enqueueIf_port (s : State) (b : Bool) (p q : Port) (e : Event) :
    (if b then s.enqueue p e else s).port q = if q = p ∧ b = true then received (s.port q) e else s.port q := by
  cases b
  · simp
  · by_cases h : q = p
    · subst h; simp [s.enqueue_port_received]
    · simp [h, s.enqueue_port_other e h]

/-- Port M and every plane in service receive a post to all; the other ports are as they were (R155). -/
theorem State.postAll_port (s : State) (e : Event) (q : Port) :
    (s.postAll e).port q = if s.inService q = true then received (s.port q) e else s.port q := by
  have hm (q : Port) : (s.enqueue .m e).port q = if q = .m ∧ true = true then received (s.port q) e else s.port q :=
    s.enqueueIf_port true .m q e
  have hservice (q : Port) : (s.enqueue .m e).inService q = s.inService q := by cases q <;> rfl
  unfold State.postAll State.postPlanes
  dsimp only
  rw [State.enqueueIf_port, State.enqueueIf_port, hm, hservice, hservice]
  cases q <;> simp [State.inService]

/-- A post changes the ports alone. -/
theorem State.postAll_eq (s : State) (e : Event) : s.postAll e = { s with ports := (s.postAll e).ports } := by
  unfold State.postAll State.postPlanes
  dsimp only
  split <;> split <;> rfl

/-- A capture changes the record, the missed kinds and the ports alone. -/
theorem State.capture_eq (s : State) (k : FaultKind) (f : Option Feed) (l : Option (Fin 32)) :
    s.capture k f l =
      { s with
        ports := (s.capture k f l).ports, faultRecord := (s.capture k f l).faultRecord
        missed := (s.capture k f l).missed } := by
  unfold State.capture
  split <;> rfl

/-- A capture posts to Port M alone. -/
theorem State.capture_port_other (s : State) (k : FaultKind) (f : Option Feed) (l : Option (Fin 32)) {q : Port}
    (h : q ≠ .m) : (s.capture k f l).port q = s.port q := by
  unfold State.capture
  split
  · exact State.enqueue_port_other _ _ h
  · rfl

/-- A capture fills an EMPTY record and posts FAULT_CAPTURED, or adds the kind to the missed ones (R172, R173). -/
theorem State.capture_captures (s : State) (k : FaultKind) (f : Option Feed) (l : Option (Fin 32)) :
    Captures s (s.capture k f l) (s.port .m) ((s.capture k f l).port .m) k f l := by
  unfold Captures State.capture
  cases s.faultRecord with
  | none => exact ⟨rfl, rfl, State.enqueue_port_received _ .m _⟩
  | some r => exact ⟨rfl, rfl, rfl⟩

/-- Whether a fault is captured or missed depends on the record, the missed kinds and the stamp alone. -/
theorem Captures.of_same {u : State} {m m' : PortRecord} {k : FaultKind} {f : Option Feed} {l : Option (Fin 32)}
    (h : Captures u t m m' k f l) (hr : u.faultRecord = s.faultRecord) (hm : u.missed = s.missed)
    (hs : u.stamp = s.stamp) : Captures s t m m' k f l := by
  unfold Captures at h ⊢
  rwa [hr, hm, hs] at h

/-! ### The fourth reading of a run (R134) -/

/-- A row of the threshold table gives the target and the direction of the readings in its range. -/
theorem readingTarget_of_thresholds {v target : Level} {low high n : Nat} {dir : RunDirection}
    (h : (v, low, high, target, dir) ∈ thresholds) (hl : low ≤ n) (hh : n ≤ high) :
    readingTarget v n = (target, dir) := by
  simp only [thresholds, List.mem_cons, Prod.mk.injEq, List.not_mem_nil, or_false] at h
  grind [readingTarget]

/-- A direction other than none leads away from the level in force. -/
theorem target_ne_of_thresholds {v target : Level} {low high : Nat} {dir : RunDirection}
    (h : (v, low, high, target, dir) ∈ thresholds) (hd : dir ≠ .none) : target ≠ v := by
  simp only [thresholds, List.mem_cons, Prod.mk.injEq, List.not_mem_nil, or_false] at h
  grind

/-- The milder of the reach held and the target is LOW where either is LOW (R134 step 3). -/
theorem milder_eq (held : Option Level) (target : Level) :
    milder held target = if held = some .low ∨ target = .low then Level.low else target := by
  unfold milder
  split
  · next h => rw [if_pos (.inl h)]
  · next h =>
    split
    · next ht => exact ht.resolve_left h
    · rfl

/-- The fourth reading of a run changes the level (R134 step 4, R135). -/
theorem exec_batteryState_fourth {reading : Nat} {target : Level} {dir : RunDirection} (hp : s.phase = .run)
    (hr : readingTarget s.battery.level (min reading 800) = (target, dir)) (ht : target ≠ s.battery.level)
    (hd : dir = s.battery.direction) (hc : s.battery.count = 3) :
    exec (.batteryState reading) s = .next (s.changeLevel (milder s.battery.reach target)) := by
  have hx : s.battery.extend target dir = { s.battery with count := 4, reach := some (milder s.battery.reach target) } := by
    rw [Battery.extend, if_pos hd, hc]
  have hdue : s.levelDue reading = true := by
    simp [State.levelDue, clampReading, hr, hx, ht]
  have happly : s.applyReading reading = s.changeLevel (milder s.battery.reach target) := by
    simp [State.applyReading, clampReading, hr, hx, ht]
  rw [exec, execBatteryState, if_pos ⟨hp, hdue⟩, happly]

/-! ### The level change (R42, R135) -/

/-- How a level change is told: posted to all, and captured where the level is CRITICAL. -/
def State.tellLevel (s : State) (v : Level) (e : Event) : State :=
  if v = .critical then (s.postAll e).capture .batteryCritical none none else s.postAll e

/-- The part with a new level in force and its run cleared (R134). -/
def State.atLevel (s : State) (v : Level) : State :=
  { s with battery := { level := v, direction := .none, count := 0, reach := none } }

/-- BATTERY_STATE with a level, at the stamp in force (R188). -/
def State.levelEvent (s : State) (v : Level) : Event := s.plainEvent .batteryState (detail 0 (levelCode v))

/-- The state that a level change tells of: shed, and after one pass. -/
def State.levelSettled (s : State) (v : Level) : State := ((s.atLevel v).levelShed s.battery.level).pass

theorem State.levelSettled_eq (s : State) (v : Level) :
    s.levelSettled v =
      { s.atLevel v with jobs := (s.levelSettled v).jobs, lines := ((s.atLevel v).levelShed s.battery.level).lines } := by
  have h := (ShedFrom.levelShed (s.atLevel v) s.battery.level).rest
  unfold State.levelSettled
  generalize (s.atLevel v).levelShed s.battery.level = u at h ⊢
  rw [u.pass_eq]
  generalize u.pass.jobs = js
  generalize u.jobs = js', u.lines = ls at h ⊢
  subst h
  rfl

/-- A level change settles the schedule and is told. -/
theorem State.changeLevel_eq (s : State) (v : Level) :
    s.changeLevel v = (s.levelSettled v).tellLevel v (s.levelEvent v) := by
  have hevent : (s.levelSettled v).plainEvent .batteryState (detail 0 (levelCode v)) = s.levelEvent v := by
    rw [State.plainEvent, State.levelSettled_eq]; rfl
  rw [State.tellLevel, ← hevent]
  unfold State.changeLevel
  rw [State.scheduleLevel_eq]
  rfl

theorem State.tellLevel_eq (s : State) (v : Level) (e : Event) :
    s.tellLevel v e =
      { s with
        ports := (s.tellLevel v e).ports, faultRecord := (s.tellLevel v e).faultRecord
        missed := (s.tellLevel v e).missed } := by
  unfold State.tellLevel
  split
  · rw [State.capture_eq, State.postAll_eq]
  · rw [State.postAll_eq]

/-- Told of, a settled level change has touched the battery, the pool and its lines, the ports and the fault record. -/
theorem State.tellLevel_rest {w : State} {v : Level} {e : Event}
    (hw : w = { s.atLevel v with jobs := w.jobs, lines := w.lines }) :
    w.tellLevel v e =
      { s with
        battery := { level := v, direction := .none, count := 0, reach := none }, jobs := (w.tellLevel v e).jobs
        lines := (w.tellLevel v e).lines, ports := (w.tellLevel v e).ports
        faultRecord := (w.tellLevel v e).faultRecord, missed := (w.tellLevel v e).missed } := by
  have ht := w.tellLevel_eq v e
  generalize w.tellLevel v e = t at ht ⊢
  generalize t.ports = ps, t.faultRecord = fr, t.missed = ms at ht ⊢
  subst ht
  generalize w.jobs = js, w.lines = ls at hw ⊢
  subst hw
  rfl

theorem Quiet.tellLevel (s : State) (v : Level) (e : Event) : Quiet s (s.tellLevel v e) := by
  unfold State.tellLevel
  split
  · exact (Quiet.postAll s e).trans (.capture _ _ _ _)
  · exact .postAll s e

/-- Every plane in service is told of the level, and no other. -/
theorem State.tellLevel_plane (s : State) (v : Level) (e : Event) {q : Port} (hq : isPlane q = true) :
    (s.tellLevel v e).port q = if s.inService q = true then received (s.port q) e else s.port q := by
  have hm : q ≠ .m := by rintro rfl; cases hq
  unfold State.tellLevel
  split
  · rw [State.capture_port_other _ _ _ _ hm, State.postAll_port]
  · rw [State.postAll_port]

/-- A level that is not CRITICAL is told to Port M, and captures nothing. -/
theorem State.tellLevel_uncaptured (s : State) {v : Level} (e : Event) (hv : v ≠ .critical) :
    (s.tellLevel v e).port .m = received (s.port .m) e ∧ (s.tellLevel v e).faultRecord = s.faultRecord ∧
      (s.tellLevel v e).missed = s.missed := by
  rw [State.tellLevel, if_neg hv]
  exact ⟨s.postAll_port e .m, s.postAll_faultRecord e, s.postAll_missed e⟩

/-- A CRITICAL level is captured after it is told (R135). -/
theorem State.tellLevel_captures (s : State) (e : Event) :
    Captures s (s.tellLevel .critical e) (received (s.port .m) e) ((s.tellLevel .critical e).port .m)
      .batteryCritical none none := by
  have h := (s.postAll e).capture_captures .batteryCritical none none
  rw [show (s.postAll e).port .m = received (s.port .m) e from s.postAll_port e .m] at h
  exact h.of_same (s.postAll_faultRecord e) (s.postAll_missed e) (s.postAll_stamp e)

/-- What a level change leaves as it was, and what becomes of the pool and the lines (R42). -/
theorem State.levelSettled_lines (s : State) (v : Level) (l : Fin 32) :
    (s.levelSettled v).line l = s.line l ∨ (s.levelSettled v).line l = { s.line l with drive := none } := by
  have h := (ShedFrom.levelShed (s.atLevel v) s.battery.level).lines l
  rwa [State.levelSettled, State.line_congr (State.pass_lines _)]

theorem State.levelSettled_jobLines (s : State) (v : Level) :
    (s.levelSettled v).jobs.map (·.line) = s.jobs.map (·.line) :=
  (State.pass_jobLines _).trans (ShedFrom.levelShed (s.atLevel v) s.battery.level).jobLines

theorem Load.levelSettled {v : Level} (hp : PoolBounded s) (hw : v = .critical ∨ WithinCapacity s) :
    Load (s.levelSettled v) := by
  have h := Load.level v hp hw
  rwa [State.scheduleLevel_eq] at h

/-- Settles O45: the fourth reading of a run is a level change, which settles the schedule and is told. -/
theorem levelChangeIsScheduledAndReported : Obligations.LevelChangeIsScheduledAndReported := by
  intro s reading low high target dir hphase hpool hrow hlow hhigh hdir hsame hcount new e
  have hexec := exec_batteryState_fourth hphase (readingTarget_of_thresholds hrow hlow hhigh)
    (target_ne_of_thresholds hrow hdir) hsame hcount
  rw [milder_eq, State.changeLevel_eq] at hexec
  have hsettled := s.levelSettled_eq new
  have hpass : (s.levelSettled new).lines = ((s.atLevel new).levelShed s.battery.level).lines := State.pass_lines _
  have hload (h : new = .critical ∨ WithinCapacity s) : Load (s.levelSettled new) := .levelSettled hpool h
  have hjobs := s.levelSettled_jobLines new
  have hlines := s.levelSettled_lines new
  have hshed : (s.levelSettled new).jobs = ((s.atLevel new).levelShed s.battery.level).pass.jobs := rfl
  generalize s.levelSettled new = w at *
  have hport (q : Port) : w.port q = s.port q := State.port_congr (by rw [hsettled]; rfl) q
  have hservice (q : Port) : w.inService q = s.inService q := by rw [hsettled]; cases q <;> rfl
  have htold := State.tellLevel_eq w new e
  have hquiet := Quiet.tellLevel w new e
  have hkeep : (w.tellLevel new e).lines = w.lines := by rw [htold]
  refine ⟨w.tellLevel new e, hexec, ?_, ?_, fun l => ?_, ⟨?_, ?_⟩, fun h => ((hload (.inr h)).quiet hquiet).within,
    fun hl => ?_, fun q hplane => ?_, fun hne => ?_, fun hcrit => ?_⟩
  · exact State.tellLevel_rest (hsettled.trans (by rw [hpass]))
  · rw [hquiet.jobs, hjobs]
  · rw [State.line_congr hkeep]; exact hlines l
  · rw [hquiet.jobs]; exact hshed
  · rw [hkeep]; exact hpass
  · have hcrit : new = .critical := by rw [← hl, htold, hsettled]; rfl
    exact ((hload (.inl hcrit)).quiet hquiet).gate hl
  · rw [w.tellLevel_plane new e hplane, hport, hservice]
  · obtain ⟨hm, hf, hmissed⟩ := w.tellLevel_uncaptured e hne
    rw [hm, hf, hmissed, hport, hsettled]
    exact ⟨rfl, rfl, rfl⟩
  · have h := w.tellLevel_captures e
    rw [hport, ← hcrit] at h
    exact h.of_same (by rw [hsettled]; rfl) (by rw [hsettled]; rfl) (by rw [hsettled]; rfl)

end Sys2Proof.Machine
end

section
/-! PROOFS. What a placement pass makes of one job and what it depends on (R36 to R38, R55), and the station and target that a
job takes (R32, R47). -/

namespace Sys2Proof.Machine

variable {s t : State}

/-! ### A pass and one job (R38) -/

/-- What a pass can make of a job: nothing, or a WAITING job placed at a phase. -/
inductive PassedJob (j : Job) : Job → Prop
  | same : PassedJob j j
  | placed (ph : Fin 12) (h : j.state = .waiting) : PassedJob j { j with state := .placed, phase := some ph }

namespace PassedJob

variable {j j' j'' : Job}

theorem trans (h : PassedJob j j') (k : PassedJob j' j'') : PassedJob j j'' := by
  cases h
  case same => exact k
  case placed ph hw =>
    cases k
    case same => exact .placed ph hw
    case placed _ hp => cases hp

/-- A job that is not WAITING stays as it is. -/
theorem eq_of_not_waiting (h : PassedJob j j') (hw : j.state ≠ .waiting) : j' = j := by
  cases h
  case same => rfl
  case placed _ hp => exact absurd hp hw

/-- Only the state and the phase can differ. -/
theorem rest (h : PassedJob j j') : j' = { j with state := j'.state, phase := j'.phase } := by cases h <;> rfl

theorem current (h : PassedJob j j') : j'.current = j.current := by cases h <;> rfl

theorem home (h : PassedJob j j') : j'.home = j.home := by cases h <;> rfl

/-- A WAITING job is WAITING or PLACED afterwards. -/
theorem waiting_or_placed (h : PassedJob j j') (hw : j.state = .waiting) : j'.state = .waiting ∨ j'.state = .placed := by
  cases h
  case same => exact .inl hw
  case placed => exact .inr rfl

/-- A job that was neither PLACED nor at a phase has a phase afterwards exactly if it is PLACED. -/
theorem phase_iff (h : PassedJob j j') (hs : j.state ≠ .placed) (hp : j.phase = none) :
    j'.phase.isSome = true ↔ j'.state = .placed := by
  cases h
  case same => simp [hs, hp]
  case placed => simp

end PassedJob

/-- One visit of a pass leaves every line its job, as it was or placed. -/
theorem State.tryPlace_job? {l : Fin 32} {j : Job} (h : s.job? l = some j) (k : Fin 32) :
    ∃ j', (s.tryPlace k).job? l = some j' ∧ PassedJob j j' := by
  rcases s.tryPlace_cases k with e | ⟨i, f, n, m, ph, hi, hw, -, -, -, -, -, e⟩
  · exact ⟨j, by rw [e, h], .same⟩
  · rw [e, State.modJob_job? s k l (fun j => { j with state := .placed, phase := some ph }) fun _ => rfl, h]
    split
    · next hl =>
      subst hl
      obtain rfl : j = i := Option.some.inj (h.symm.trans hi)
      exact ⟨_, rfl, .placed ph hw⟩
    · exact ⟨j, rfl, .same⟩

/-- A pass leaves every line its job, as it was or placed. -/
theorem State.pass_job? {l : Fin 32} {j : Job} (h : s.job? l = some j) :
    ∃ j', s.pass.job? l = some j' ∧ PassedJob j j' :=
  s.pass_induction (P := fun t => ∃ j', t.job? l = some j' ∧ PassedJob j j') ⟨j, h, .same⟩ fun t k ⟨j', hj', hp⟩ => by
    obtain ⟨j'', hj'', hp'⟩ := State.tryPlace_job? hj' k
    exact ⟨j'', hj'', hp.trans hp'⟩

theorem State.passIf_job? {l : Fin 32} {j : Job} (b : Bool) (h : s.job? l = some j) :
    ∃ j', (s.passIf b).job? l = some j' ∧ PassedJob j j' := by
  cases b
  · exact ⟨j, h, .same⟩
  · exact State.pass_job? h

/-- A pass leaves a job that is not WAITING as it is. -/
theorem State.passIf_job?_of_not_waiting {l : Fin 32} {j : Job} (b : Bool) (h : s.job? l = some j)
    (hw : j.state ≠ .waiting) : (s.passIf b).job? l = some j := by
  obtain ⟨j', hj', hp⟩ := State.passIf_job? b h
  rw [hj', hp.eq_of_not_waiting hw]

theorem State.passIf_jobLines (s : State) (b : Bool) : (s.passIf b).jobs.map (·.line) = s.jobs.map (·.line) := by
  cases b
  · rfl
  · exact s.pass_jobLines

/-- Whether a line has a job depends on the lines of the pool. -/
theorem State.hasJob_congr (h : t.jobs.map (·.line) = s.jobs.map (·.line)) (l : Fin 32) : t.hasJob l = s.hasJob l := by
  have hiff (u : State) : u.hasJob l = true ↔ l ∈ u.jobs.map (·.line) := by simp [State.hasJob, State.job?]
  rw [Bool.eq_iff_iff, hiff, hiff, h]

/-- A pass finds no job for a line that has none. -/
theorem State.passIf_hasJob (s : State) (b : Bool) (l : Fin 32) : (s.passIf b).hasJob l = s.hasJob l :=
  State.hasJob_congr (s.passIf_jobLines b) l

/-- Each job after a pass is one that stood before it, as it was or placed. -/
theorem State.mem_passIf {b : Bool} (hn : (s.jobs.map (·.line)).Nodup) {j' : Job} (h : j' ∈ (s.passIf b).jobs) :
    ∃ j ∈ s.jobs, PassedJob j j' := by
  have hj' : (s.passIf b).job? j'.line = some j' :=
    (State.job?_eq_some_iff (by rw [s.passIf_jobLines b]; exact hn)).2 ⟨h, rfl⟩
  have hline : j'.line ∈ s.jobs.map (·.line) := s.passIf_jobLines b ▸ List.mem_map_of_mem h
  obtain ⟨j, hj, hl⟩ := List.mem_map.1 hline
  obtain ⟨i, hi, hp⟩ := State.passIf_job? b ((State.job?_eq_some_iff hn).2 ⟨hj, hl⟩)
  obtain rfl : j' = i := Option.some.inj (hj'.symm.trans hi)
  exact ⟨j, hj, hp⟩

/-- A pass changes jobs alone. -/
theorem State.passIf_eq (s : State) (b : Bool) : s.passIf b = { s with jobs := (s.passIf b).jobs } := by
  cases b
  · rfl
  · exact s.pass_eq

/-! ### What a pass depends on -/

/-- All that a placement pass reads is the same. -/
structure SameSchedule (s t : State) : Prop where
  jobs : t.jobs = s.jobs
  pos : t.pos = s.pos
  patterns : t.patterns = s.patterns
  feeds : t.feeds = s.feeds
  battery : t.battery = s.battery
  policy : t.policy = s.policy

theorem SameSchedule.phaseFor (h : SameSchedule s t) (j : Job) : t.phaseFor j = s.phaseFor j := by
  have hprofile : t.profile = s.profile := by
    funext f x; rw [State.profile, State.profile, h.jobs, State.loadAt_congr h.patterns]
  have hcapacity : t.effectiveCapacity = s.effectiveCapacity := by
    funext f; rw [State.effectiveCapacity, State.effectiveCapacity, State.feed_congr h.feeds, h.battery]
  have hfits : t.fits = s.fits := by
    funext f x n ph; rw [State.fits, State.fits, hprofile, hcapacity]
  have hfind : t.findPhase = s.findPhase := by
    funext f x n; rw [State.findPhase, State.findPhase, hfits, h.pos]
  unfold State.phaseFor State.gated State.pattern
  rw [hfind, h.patterns, h.battery]

theorem SameSchedule.tryPlace (h : SameSchedule s t) (l : Fin 32) : SameSchedule (s.tryPlace l) (t.tryPlace l) := by
  have hjob : t.job? l = s.job? l := by rw [State.job?, State.job?, h.jobs]
  unfold State.tryPlace
  rw [hjob]
  cases s.job? l with
  | none => exact h
  | some j =>
    dsimp only
    rw [h.phaseFor]
    cases s.phaseFor j with
    | none => exact h
    | some ph => exact ⟨by simp only [State.modJob, h.jobs], h.pos, h.patterns, h.feeds, h.battery, h.policy⟩

theorem SameSchedule.pass (h : SameSchedule s t) : SameSchedule s.pass t.pass := by
  have hqueue : t.queue = s.queue := by simp only [State.queue, State.waitingOfClass, h.jobs, h.policy]
  unfold State.pass
  rw [hqueue]
  clear hqueue
  generalize s.queue = q
  induction q generalizing s t with
  | nil => exact h
  | cons l q ih => exact ih (h.tryPlace l)

/-- A pass makes the same pool of two states that differ in nothing that it reads. -/
theorem SameSchedule.pass_jobs (h : SameSchedule s t) : t.pass.jobs = s.pass.jobs := h.pass.jobs

/-! ### Changing the pool -/

/-- What is made of the jobs of a line matters for those jobs alone. -/
theorem State.modJob_congr {l : Fin 32} {g h : Job → Job} (e : ∀ j ∈ s.jobs, j.line = l → g j = h j) :
    s.modJob l g = s.modJob l h := by
  have hjobs : (s.jobs.map fun j => if j.line = l then g j else j) = s.jobs.map fun j => if j.line = l then h j else j :=
    List.map_congr_left fun j hj => by
      split
      · exact e j hj ‹_›
      · rfl
  simp only [State.modJob, hjobs]

/-- The job of a line once it is changed. -/
theorem State.modJob_job?_self {l : Fin 32} {j : Job} (h : s.job? l = some j) {g : Job → Job}
    (hg : ∀ j, (g j).line = j.line) : (s.modJob l g).job? l = some (g j) := by
  rw [State.modJob_job? s l l g hg, if_pos rfl, h]; rfl

/-- A job added for a line that had none is the line's. -/
theorem State.addJob_job?_self {j : Job} (h : s.hasJob j.line = false) : (s.addJob j).job? j.line = some j := by
  have hnone : s.jobs.find? (fun i => i.line == j.line) = none := by
    simpa [State.hasJob, State.job?] using h
  simp only [State.job?, State.addJob, List.find?_append, hnone]
  simp

/-! ### Station and target (R32, R47) -/

/-- Target selection reads the states and the fallback flags of the feeds. -/
theorem chosenTarget_congr (hs : ∀ f, (t.feed f).state = (s.feed f).state)
    (hb : ∀ f, (t.feed f).fallback = (s.feed f).fallback) (h : Feed) (v : Bool) :
    chosenTarget t h v = chosenTarget s h v := by
  simp only [chosenTarget, hs, hb]

/-- What target selection makes of a job with a home feed and a station (R47). -/
theorem State.selectTarget_eq {j : Job} {b : Feed} {i : Fin 192} (hb : j.home = some b) (hi : j.station = some i) :
    s.selectTarget j =
      { j with
        state := (chosenTarget s b (s.station i).selective).1, current := (chosenTarget s b (s.station i).selective).2
        phase := none, waitTimer := 0 } := by
  simp only [State.selectTarget, State.jobSelective, hb, hi]
  rfl

/-- A job of a line that has taken a party's station and selected its target (R32, R46, R47). -/
def State.stationedJob (s : State) (l : Fin 32) (y : Fin 8) (i : Fin 192) (j : Job) : Job :=
  { j with
    party := y, station := some i, pattern := some (s.station i).pattern
    load := some ((s.station i).load + (s.line l).desc.allowance), home := some (s.station i).home
    state := (chosenTarget s (s.station i).home (s.station i).selective).1
    current := (chosenTarget s (s.station i).home (s.station i).selective).2, phase := none, waitTimer := 0 }

/-- A job that takes a party's station holds that station's properties and its target. -/
theorem State.takeStation_eq {l : Fin 32} {y : Fin 8} {i : Fin 192} {j : Job} (hl : j.line = l)
    (hi : stationIndex (s.line l).desc y = some i) : s.takeStation y j = s.stationedJob l y i j := by
  subst hl
  simp only [State.takeStation, hi]
  exact State.selectTarget_eq rfl rfl

/-- A pass leaves a job that has selected its target WAITING or PLACED on the feed selected, or SUSPENDED on none. -/
theorem PassedJob.on_target {j j' : Job} {b : Feed} {v : Bool} (h : PassedJob j j')
    (hs : j.state = (chosenTarget s b v).1) (hc : j.current = (chosenTarget s b v).2) (hp : j.phase = none) :
    (if (s.feed b).state = .good then j'.current = some b ∧ (j'.state = .waiting ∨ j'.state = .placed)
     else if v = false ∧ (s.feed b).fallback = true ∧ (s.feed .fb).state = .good then
       j'.current = some .fb ∧ (j'.state = .waiting ∨ j'.state = .placed)
     else j'.current = none ∧ j'.state = .suspended) ∧
    (j'.phase.isSome = true ↔ j'.state = .placed) := by
  unfold chosenTarget at hs hc
  have hcur := h.current
  split at hs
  · next hg =>
    rw [if_pos hg] at hc ⊢
    exact ⟨⟨hcur.trans hc, h.waiting_or_placed hs⟩, h.phase_iff (by simp [hs]) hp⟩
  · next hg =>
    rw [if_neg hg] at hc ⊢
    split at hs
    · next hb =>
      rw [if_pos hb] at hc ⊢
      exact ⟨⟨hcur.trans hc, h.waiting_or_placed hs⟩, h.phase_iff (by simp [hs]) hp⟩
    · next hb =>
      rw [if_neg hb] at hc ⊢
      obtain rfl := h.eq_of_not_waiting (by simp [hs])
      exact ⟨⟨hc, hs⟩, by simp [hs, hp]⟩

end Sys2Proof.Machine
end

section
/-! PROOFS. SET_POLICY, PROMOTE and RING: their checks in order, and what the accepted request does (R49, R51, R52, R67). -/

namespace Sys2Proof.Machine

variable {s t : State}

/-! ### SET_POLICY (R49) -/

theorem argPolicy_eq_none {b : Byte} (h : 2 ≤ b.toNat) : argPolicy b = none := by
  have h0 : b ≠ 0 := by rintro rfl; simp at h
  have h1 : b ≠ 1 := by rintro rfl; simp at h
  rw [argPolicy, if_neg h0, if_neg h1]

/-- A byte of 0 or 1 names a policy, and is its code. -/
theorem argPolicy_eq_some {b : Byte} (h : b.toNat ≤ 1) :
    argPolicy b = some (if b = 0 then .byClass else .byArrival) ∧
      policyCode (if b = 0 then .byClass else .byArrival) = b := by
  obtain rfl | rfl : b = 0 ∨ b = 1 := by bv_omega
  · exact ⟨rfl, rfl⟩
  · exact ⟨rfl, rfl⟩

theorem setPolicyReply_badArgument {b : Byte} (h : argPolicy b = none) :
    setPolicyReply b s = refuse s .badArgument := by
  simp only [setPolicyReply, h]

theorem setPolicyReply_saveBusy {b : Byte} {q : Policy} (h : argPolicy b = some q) (hs : s.save.isSome = true) :
    setPolicyReply b s = refuse s .saveBusy := by
  simp [setPolicyReply, h, State.saving, hs]

theorem setPolicyReply_stored {b : Byte} {q : Policy} (h : argPolicy b = some q) (hs : s.save = none) :
    setPolicyReply b s = ⟨({ s with policy := q } : State).pass, .ok, [policyCode q]⟩ := by
  simp [setPolicyReply, h, State.saving, hs]

/-- A job that is the only one for its line and not WAITING stands unchanged in the pool after a pass. -/
theorem State.mem_pass_of_not_waiting {j : Job} (hj : j ∈ s.jobs) (hw : j.state ≠ .waiting)
    (hu : ∀ k ∈ s.jobs, k.line = j.line → k = j) : j ∈ s.pass.jobs := by
  have hfind : s.job? j.line = some j := by
    cases hk : s.job? j.line with
    | none => exact absurd rfl (State.hasJob_eq_false.1 (by simp [State.hasJob, hk]) j hj)
    | some k => rw [hu k (State.job?_mem hk) (State.job?_line hk)]
  exact State.job?_mem (State.passIf_job?_of_not_waiting true hfind hw)

/-- Settles O17: the reply of SET_POLICY in each case, and the pass under the policy stored. -/
theorem setPolicyStoresThePolicy : Obligations.SetPolicyStoresThePolicy := by
  intro s tag policy hready
  have hc : exec (.setPolicy .m tag policy) s = .next (request .setPolicy .m tag [policy] (setPolicyReply policy) s) :=
    rfl
  refine ⟨fun h => refuses_of_reply hc hready rfl rfl (setPolicyReply_badArgument (argPolicy_eq_none h)),
    fun h hs => refuses_of_reply hc hready rfl rfl (setPolicyReply_saveBusy (argPolicy_eq_some h).1 hs), fun h hs => ?_⟩
  obtain ⟨hq, hcode⟩ := argPolicy_eq_some h
  have hexec := exec_answered hc hready rfl rfl
  rw [setPolicyReply_stored hq hs, hcode] at hexec
  generalize (if policy = 0 then Policy.byClass else .byArrival) = q at hexec ⊢
  obtain ⟨u, hu⟩ : ∃ u : State, u = { s with policy := q } := ⟨_, rfl⟩
  rw [← hu] at hexec ⊢
  refine ⟨_, hexec, ?_, rfl, ?_, fun j hj hw hone => ?_, answers_answer ?_ .m tag 0x0B [policy] .ok [policy]⟩
  · obtain ⟨js, hjs⟩ : ∃ js, u.pass = { u with jobs := js } := ⟨_, u.pass_eq⟩
    rw [hjs, hu]
    rfl
  · exact u.pass_jobLines.trans (by rw [hu])
  · subst hu
    exact State.mem_pass_of_not_waiting hj hw hone
  · rw [State.pass_ports, hu]

/-! ### PROMOTE (R67) -/

/-- A class byte of a plane: 0 is raised to 1 and values above 3 saturate. -/
theorem planeClass_val (b : Byte) : (planeClass b).val = if b.toNat = 0 then 1 else min b.toNat 3 := by
  unfold planeClass
  repeat' split
  all_goals simp; try omega

theorem promotable_iff {v : JobState} : promotable v = true ↔ v = .waiting ∨ v = .placed ∨ v = .suspended := by
  cases v <;> simp [promotable]

theorem isPlane_of_ne {p : Port} (h : p ≠ .m) : isPlane p = true := by
  cases p with
  | m => exact absurd rfl h
  | a => rfl
  | b => rfl

/-- What PROMOTE makes of a job's class. -/
def raiseClass (b : Byte) (j : Job) : Job := { j with cls := max j.cls (planeClass b) }

section
variable {p : Port} {line cls : Byte} {l : Fin 32} {j : Job}

theorem promoteReply_badArgument (h : argLine line = none) : promoteReply p line cls s = refuse s .badArgument := by
  simp only [promoteReply, h]

theorem promoteReply_noJob (h : argLine line = some l) (hj : s.job? l = none) :
    promoteReply p line cls s = refuse s .noJob := by
  simp only [promoteReply, h, hj]

theorem promoteReply_heldByOther (h : argLine line = some l) (hj : s.job? l = some j) (ho : j.owner ≠ p) :
    promoteReply p line cls s = refuse s .heldByOther := by
  simp only [promoteReply, h, hj, if_pos ho]

theorem promoteReply_raised (h : argLine line = some l) (hj : s.job? l = some j) (ho : j.owner = p)
    (hv : promotable j.state = true) :
    promoteReply p line cls s =
      ⟨(s.modJob l (raiseClass cls)).pass, .ok, promotePayload (s.modJob l (raiseClass cls)).pass l⟩ := by
  simp only [promoteReply, h, hj, if_neg (not_not.2 ho), if_pos hv]
  rfl

theorem promoteReply_left (h : argLine line = some l) (hj : s.job? l = some j) (ho : j.owner = p)
    (hv : ¬promotable j.state = true) : promoteReply p line cls s = ⟨s, .ok, promotePayload s l⟩ := by
  simp only [promoteReply, h, hj, if_neg (not_not.2 ho), if_neg hv]

theorem promotePayload_eq (hj : s.job? l = some j) :
    promotePayload s l = [jobStateCode j.state, BitVec.ofNat 8 j.cls.val] := by
  simp only [promotePayload, hj]
  rfl

theorem promote_refuses {tag : Byte} {st : Status} (hr : Ready s p) (hp : p ≠ .m) (hs : s.inService p = true)
    (h : promoteReply p line cls s = refuse s st) :
    Refuses (.promote p tag line cls) s p tag 0x08 [line, cls] (statusCode st) :=
  refuses_of_reply (k := .promote) rfl hr (isPlane_of_ne hp) hs h

end

/-- Settles O16: the reply of PROMOTE in each case, and what its pass makes of the raised job. -/
theorem promoteRaisesTheClass : Obligations.PromoteRaisesTheClass := by
  refine ⟨fun s p tag line cls l j hp hready hserv hpool hl hj ho => ?_, fun s p tag line cls hp hready hserv => ?_⟩
  · intro asked raises
    have harg : argLine line = some l := argBelow_eq_some hl
    have hc : exec (.promote p tag line cls) s =
      .next (request .promote p tag [line, cls] (promoteReply p line cls) s) := rfl
    have hexec := exec_answered hc hready (isPlane_of_ne hp) hserv
    by_cases hv : promotable j.state = true
    · rw [promoteReply_raised harg hj ho hv] at hexec
      have hk : (s.modJob l (raiseClass cls)).job? l = some (raiseClass cls j) :=
        State.modJob_job?_self hj fun _ => rfl
      obtain ⟨j', hj', hpass⟩ := State.pass_job? hk
      have hcls : j'.cls = max j.cls (planeClass cls) := by cases hpass <;> rfl
      have hsame : s.modJob l (fun j => { j with cls := j'.cls }) = s.modJob l (raiseClass cls) :=
        State.modJob_congr fun i hi e => by
          obtain rfl : i = j := Option.some.inj (((State.job?_eq_some_iff hpool.2).2 ⟨hi, e⟩).symm.trans hj)
          rw [raiseClass, hcls]
      refine ⟨_, j', hexec, ?_, ?_, hj', fun _ => ⟨?_, ?_, fun hw => ?_, by rw [hsame]; rfl⟩,
        fun hno => absurd (promotable_iff.1 hv) hno, ?_⟩
      · obtain ⟨js, hjs⟩ : ∃ js, (s.modJob l (raiseClass cls)).pass = { s with jobs := js } := ⟨_, State.pass_eq _⟩
        rw [hjs]
        rfl
      · exact (State.pass_jobLines _).trans (s.modJob_jobLines l _ fun _ => rfl)
      · have hasked : (planeClass cls).val = asked := planeClass_val cls
        rw [hcls, ← hasked, Fin.coe_max]
      · cases hpass <;> rfl
      · rw [hpass.eq_of_not_waiting hw]
        exact ⟨rfl, rfl⟩
      · rw [promotePayload_eq hj']
        exact answers_answer (State.pass_ports _) p tag 0x08 [line, cls] .ok _
    · rw [promoteReply_left harg hj ho hv, promotePayload_eq hj] at hexec
      have hleft : ¬raises := mt promotable_iff.2 hv
      exact ⟨_, j, hexec, rfl, rfl, hj, fun hr => absurd hr hleft, fun _ => rfl,
        answers_answer rfl p tag 0x08 [line, cls] .ok _⟩
  · refine ⟨fun h => promote_refuses hready hp hserv (promoteReply_badArgument (argBelow_eq_none_iff.2 h)),
      fun l hl => ?_⟩
    have harg : argLine line = some l := argBelow_eq_some hl
    exact ⟨fun h => promote_refuses hready hp hserv (promoteReply_noJob harg h), fun _ =>
      ⟨fun ⟨j, hj, ho⟩ => promote_refuses hready hp hserv (promoteReply_heldByOther harg hj ho), fun _ => trivial⟩⟩

end Sys2Proof.Machine
end

section
/-! PROOFS. RING: its checks in order, and the job that an accepted one creates (R51, R52). -/

namespace Sys2Proof.Machine

variable {s t : State}

/-! ### RING's arguments and checks (R51) -/

theorem ringClass_val (p : Port) (b : Byte) :
    (ringClass p b).val = if p = .m then 0 else if b.toNat = 0 then 1 else min b.toNat 3 := by
  by_cases h : p = .m
  · subst h; rfl
  · rw [if_neg h, ringClass, if_pos (isPlane_of_ne h), planeClass_val]

theorem clampLimit_eq (n : Nat) (b : Byte) : clampLimit n b = if b = 0 then n else min b.toNat 60 := by
  have h : b.toNat = 0 ↔ b = 0 := by bv_omega
  simp only [clampLimit, h]

theorem argYes_eq_some {b : Byte} (h : b.toNat ≤ 1) : argYes b = some (b == 1) :=
  argYes_eq_some_iff.2 (yesCode_beq_one h)

theorem argYes_eq_none {b : Byte} (h : 2 ≤ b.toNat) : argYes b = none := by
  have h0 : b ≠ 0 := by rintro rfl; simp at h
  have h1 : b ≠ 1 := by rintro rfl; simp at h
  rw [argYes, if_neg h1, if_neg h0]

/-- The line is bound, and not to this port. -/
theorem heldByOther_iff {o : Option Port} {p : Port} : (o ≠ none ∧ o ≠ some p) ↔ ∃ q, o = some q ∧ q ≠ p := by
  cases o <;> simp

section
variable {p : Port} {tag line party cls limit progress : Byte} {l : Fin 32} {y : Fin 8} {i : Fin 192} {b : Bool}
  {st : Status}

theorem ringReply_badArgument (h : argLine line = none ∨ argParty party = none ∨ argYes progress = none) :
    ringReply p line party cls limit progress s = refuse s .badArgument := by
  unfold ringReply
  split
  · next hl hy hb => simp [hl, hy, hb] at h
  · rfl

/-- The admin states that RING refuses. -/
theorem ringReply_admin (hl : argLine line = some l) (hy : argParty party = some y) (hb : argYes progress = some b) :
    ((s.line l).desc.admin = .disabled → ringReply p line party cls limit progress s = refuse s .lineDisabled) ∧
    ((s.line l).desc.admin = .faulted → ringReply p line party cls limit progress s = refuse s .lineFaulted) := by
  refine ⟨fun h => ?_, fun h => ?_⟩ <;> simp only [ringReply, hl, hy, hb, h]

theorem ringReply_refused (hl : argLine line = some l) (hy : argParty party = some y) (hb : argYes progress = some b)
    (ha : (s.line l).desc.admin = .enabled) (hr : ringRefusal p l y s = some st) :
    ringReply p line party cls limit progress s = refuse s st := by
  simp only [ringReply, hl, hy, hb, ha, hr]

theorem ringReply_accepted (hl : argLine line = some l) (hy : argParty party = some y) (hb : argYes progress = some b)
    (ha : (s.line l).desc.admin = .enabled) (hr : ringRefusal p l y s = none) :
    ringReply p line party cls limit progress s =
      ⟨s.createRing p l y (ringClass p cls) (clampLimit (s.line l).desc.frameLimit limit) b, .ok,
        ringPayload (s.createRing p l y (ringClass p cls) (clampLimit (s.line l).desc.frameLimit limit) b) l⟩ := by
  simp only [ringReply, hl, hy, hb, ha, hr]

/-- The checks of RING from the fourth on where the party has a station, in the words of the claims (R51). -/
theorem ringRefusal_eq (hi : stationIndex (s.line l).desc y = some i) :
    ringRefusal p l y s =
      if (s.station i).enabled = false then some .stationDisabled
      else if (s.line l).owner ≠ none ∧ (s.line l).owner ≠ some p then some .heldByOther
      else if s.hasJob l = true ∨ s.hasRevert l = true then some .lineBusy
      else if supervisionMet s l ≠ .onHook then some .lineOffHook
      else if 24 ≤ s.jobs.length then some .poolFull
      else none := by
  simp only [ringRefusal, hi, State.seen_eq]
  rfl

/-- None of these checks refuses where each of them passes. -/
theorem ringRefusal_eq_none (hi : stationIndex (s.line l).desc y = some i) (he : (s.station i).enabled = true)
    (ho : (s.line l).owner = none ∨ (s.line l).owner = some p) (hj : s.hasJob l = false) (hr : s.hasRevert l = false)
    (hm : supervisionMet s l = .onHook) (hn : s.jobs.length < 24) : ringRefusal p l y s = none := by
  have hfree : ¬((s.line l).owner ≠ none ∧ (s.line l).owner ≠ some p) := by
    rcases ho with h | h <;> simp [h]
  rw [ringRefusal_eq hi, if_neg (by simp [he]), if_neg hfree, if_neg (by simp [hj, hr]), if_neg (by simp [hm]),
    if_neg (by omega)]

theorem ring_refuses (hr : Ready s p) (hs : s.inService p = true)
    (h : ringReply p line party cls limit progress s = refuse s st) :
    Refuses (.ring p tag line party cls limit progress) s p tag 0x06 [line, party, cls, limit, progress]
      (statusCode st) :=
  refuses_of_reply (k := .ring) rfl hr rfl hs h

end

/-- The refusals of RING in their order (R51). -/
theorem ring_checksInOrder {p : Port} {tag line party cls limit progress : Byte} {l : Fin 32} {y : Fin 8}
    (hready : Ready s p) (hserv : s.inService p = true) (hl : argLine line = some l) (hy : argParty party = some y)
    (hb : progress.toNat ≤ 1) :
    let x := s.line l
    let refused :=
      Refuses (.ring p tag line party cls limit progress) s p tag 0x06 [line, party, cls, limit, progress]
    ChecksInOrder refused
      (∀ i : Fin 192, i.val = x.desc.base.val + y.val →
        ChecksInOrder refused True
          [((s.station i).enabled = false, 0x0F), (∃ q, x.owner = some q ∧ q ≠ p, 0x0A),
           (s.hasJob l = true ∨ s.hasRevert l = true, 0x0C), (supervisionMet s l ≠ .onHook, 0x0D),
           (24 ≤ s.jobs.length, 0x10)])
      [(x.desc.admin = .disabled, 0x07), (x.desc.admin = .faulted, 0x08), (x.desc.count ≤ y.val, 0x04)] := by
  intro x refused
  have hyes := argYes_eq_some hb
  obtain ⟨hdis, hfau⟩ := ringReply_admin (s := s) (p := p) (cls := cls) (limit := limit) hl hy hyes
  refine ⟨fun h => ring_refuses hready hserv (hdis h), fun h1 => ⟨fun h => ring_refuses hready hserv (hfau h), fun h2 => ?_⟩⟩
  have ha : x.desc.admin = .enabled := by
    cases h : x.desc.admin with
    | enabled => rfl
    | disabled => exact absurd h h1
    | faulted => exact absurd h h2
  have hrefused {st : Status} (h : ringRefusal p l y s = some st) : refused (statusCode st) :=
    ring_refuses hready hserv (ringReply_refused hl hy hyes ha h)
  refine ⟨fun h => hrefused (st := .badArgument) ?_, fun hcount i hi => ?_⟩
  · have hnone : stationIndex x.desc y = none := dif_neg fun hc => absurd h (not_le.2 hc.1)
    simp only [ringRefusal, x, hnone]
  · have heq := ringRefusal_eq (p := p) (s := s) (stationIndex_eq_some_iff.2 ⟨not_le.1 hcount, hi⟩)
    exact ⟨fun h => hrefused (st := .stationDisabled) (by rw [heq, if_pos h]), fun h1 =>
      ⟨fun h => hrefused (st := .heldByOther) (by rw [heq, if_neg h1, if_pos (heldByOther_iff.2 h)]), fun h2 =>
      ⟨fun h => hrefused (st := .lineBusy) (by rw [heq, if_neg h1, if_neg (mt heldByOther_iff.1 h2), if_pos h]), fun h3 =>
      ⟨fun h => hrefused (st := .lineOffHook) (by rw [heq, if_neg h1, if_neg (mt heldByOther_iff.1 h2), if_neg h3, if_pos h]), fun h4 =>
      ⟨fun h => hrefused (st := .poolFull) (by rw [heq, if_neg h1, if_neg (mt heldByOther_iff.1 h2), if_neg h3, if_neg h4, if_pos h]), fun _ =>
        trivial⟩⟩⟩⟩⟩

/-! ### The job of an accepted RING (R52) -/

/-- The state of an accepted RING before its pass: the job at the tail, and the line bound. -/
def State.ringBound (s : State) (p : Port) (l : Fin 32) (j : Job) : State :=
  if (s.line l).owner = none then (s.addJob j).modLine l fun x => { x with owner := some p } else s.addJob j

section
variable {p : Port} {l : Fin 32} {y : Fin 8} {i : Fin 192} {c : Fin 4} {n : Nat} {b : Bool} {j : Job}

theorem State.createRing_eq (hi : stationIndex (s.line l).desc y = some i) :
    s.createRing p l y c n b = (s.ringBound p l (s.stationedJob l y i (ringJob p l y c n b))).pass := by
  rw [State.createRing, State.takeStation_eq (j := ringJob p l y c n b) rfl hi]
  rfl

/-- Binding and the new job touch lines and pool alone. -/
theorem State.ringBound_eq (s : State) (p : Port) (l : Fin 32) (j : Job) :
    s.ringBound p l j = { s with lines := (s.ringBound p l j).lines, jobs := s.jobs ++ [j] } := by
  unfold State.ringBound
  split <;> rfl

theorem State.ringBound_line (h : (s.line l).owner = none ∨ (s.line l).owner = some p) (k : Fin 32) :
    (s.ringBound p l j).line k = if k = l then { s.line l with owner := some p } else s.line k := by
  unfold State.ringBound
  split
  · exact (s.addJob j).modLine_line l k fun x => { x with owner := some p }
  · next hn =>
    have ho := h.resolve_left hn
    split
    · next e => subst e; rw [← ho]; rfl
    · rfl

/-- The next boundary of a phase lies 1 to 60 ticks ahead (R37). -/
theorem ticksToBoundary_eq (pos : Fin 60) (ph : Fin 12) :
    ticksToBoundary pos ph =
      if 5 * ph.val > pos.val then 5 * ph.val - pos.val else 5 * ph.val + 60 - pos.val := by
  have hpos := pos.isLt
  have hph := ph.isLt
  unfold ticksToBoundary boundary
  dsimp only
  split <;> split <;> omega

/-- The RING payload gives the job as it stands (R52, R188). -/
theorem ringPayload_eq {m : Nat} (hj : s.job? l = some j) (hm : j.load = some m) :
    ringPayload s l =
      jobStateCode j.state ::
        (match j.phase with
          | some ph => [BitVec.ofNat 8 ph.val,
              BitVec.ofNat 8 (if 5 * ph.val > s.pos.val then 5 * ph.val - s.pos.val else 5 * ph.val + 60 - s.pos.val)]
          | none => [0xFF, 0xFF]) ++
        [(match j.current with | some f => feedCode f | none => 0xFF), BitVec.ofNat 8 m, BitVec.ofNat 8 j.cls.val,
         BitVec.ofNat 8 j.frameLimit] := by
  simp only [ringPayload, hj, hm, ticksToBoundary_eq]
  cases j.phase <;> cases j.current <;> rfl

end

/-- Settles O13: the checks of RING in order, and the pass over the pool with the job that it creates. -/
theorem ringCreatesAJob : Obligations.RingCreatesAJob := by
  refine ⟨fun s p tag line party cls limit progress l y i hready hserv hl hy hb ha hcount hi hen howner hjob hrevert hmet
    hroom => ?_, fun s p tag line party cls limit progress hready hserv => ?_⟩
  · have hidx := stationIndex_eq_some_iff.2 ⟨hcount, hi⟩
    have hcheck := ringRefusal_eq_none hidx hen howner hjob hrevert hmet hroom
    have hexec := exec_answered (k := .ring) (c := .ring p tag line party cls limit progress) rfl hready rfl hserv
    rw [ringReply_accepted (argBelow_eq_some hl) (argBelow_eq_some hy) (argYes_eq_some hb) ha hcheck,
      State.createRing_eq hidx, clampLimit_eq] at hexec
    have hcls := ringClass_val p cls
    generalize ringClass p cls = c at hexec hcls
    generalize hlimit : (if limit = 0 then (s.line l).desc.frameLimit else min limit.toNat 60) = n at hexec
    obtain ⟨j₀, hj₀⟩ : ∃ j₀, j₀ = s.stationedJob l y i (ringJob p l y c n (progress == 1)) := ⟨_, rfl⟩
    obtain ⟨u, hu⟩ : ∃ u, u = s.ringBound p l j₀ := ⟨_, rfl⟩
    have hbound := s.ringBound_eq p l j₀
    have hline := State.ringBound_line (j := j₀) howner
    rw [← hj₀, ← hu] at hexec
    rw [← hu] at hbound hline
    have hadded : u.job? l = some j₀ := by
      rw [hbound, hj₀]
      exact State.addJob_job?_self (j := s.stationedJob l y i (ringJob p l y c n (progress == 1))) hjob
    have hsame : SameSchedule (s.addJob j₀) u := by constructor <;> rw [hbound] <;> rfl
    obtain ⟨j, hj, hpass⟩ := State.pass_job? hadded
    have hrest := hpass.rest
    rw [hj₀, State.stationedJob, ringJob] at hrest
    dsimp only at hrest
    have hjcls : j.cls = c := by rw [hrest]
    have hjlimit : j.frameLimit = n := by rw [hrest]
    obtain ⟨hfeed, hphase⟩ := hpass.on_target (s := s) (by rw [hj₀]; rfl) (by rw [hj₀]; rfl) (by rw [hj₀]; rfl)
    have hpayload := ringPayload_eq hj (by rw [hrest])
    rw [show u.pass.pos = s.pos by rw [State.pass_pos, hbound]] at hpayload
    rw [hpayload] at hexec
    refine ⟨_, j, hexec, ?_, ?_, fun k hk => ?_, ?_, ?_, hj, by rw [hrest], by rw [hrest], by rw [hrest], ?_,
      by rw [hrest], by rw [hrest], by rw [hrest], ?_, by rw [hrest], by rw [hrest], by rw [hrest], by rw [hrest],
      by rw [hrest], hfeed, hphase, ?_⟩
    · obtain ⟨js, hjs⟩ : ∃ js, u.pass = { u with jobs := js } := ⟨_, u.pass_eq⟩
      rw [hjs, hbound]
      rfl
    · exact (State.line_congr u.pass_lines l).trans ((hline l).trans (if_pos rfl))
    · exact (State.line_congr u.pass_lines k).trans ((hline k).trans (if_neg hk))
    · intro g created
      have hcreated : created = j₀ := by rw [hj₀, State.stationedJob, ringJob, ← hjcls, ← hjlimit]
      rw [hcreated]
      exact hsame.pass_jobs
    · exact u.pass_jobLines.trans (by rw [hbound, hj₀]; simp [State.stationedJob, ringJob])
    · rw [hjcls, hcls]
    · exact hjlimit
    · exact answers_answer (by rw [State.pass_ports, hbound]) p tag 0x06 [line, party, cls, limit, progress] .ok _
  · refine ⟨fun h => ring_refuses hready hserv (ringReply_badArgument ?_), fun l y hl hy hb =>
      ring_checksInOrder hready hserv (argBelow_eq_some hl) (argBelow_eq_some hy) hb⟩
    rcases h with h | h | h
    · exact .inl (argBelow_eq_none_iff.2 h)
    · exact .inr (.inl (argBelow_eq_none_iff.2 h))
    · exact .inr (.inr (argYes_eq_none h))

end Sys2Proof.Machine
end

section
/-! PROOFS. The ending of a call outside an expiry (R54, R71, R109): the two cancels (R68, R111), and the off-hook and trip
findings on a line with a job (R63, R64, R80, R81, R100, R107). -/

namespace Sys2Proof.Machine

variable {s t : State}

/-! ### What an ending tells the owner (R70, R155) -/

/-- A post to the owner of a line is received by the port that the line is bound to. -/
theorem State.postOwner_port (s : State) (l : Fin 32) (e : Event) (q : Port) :
    (s.postOwner l e).port q = if (s.line l).owner = some q then received (s.port q) e else s.port q := by
  unfold State.postOwner
  cases (s.line l).owner with
  | none => simp
  | some p =>
    dsimp only
    by_cases h : q = p
    · subst h
      rw [State.enqueue_port_received, if_pos rfl]
    · rw [State.enqueue_port_other _ _ h, if_neg fun e => h (Option.some.inj e).symm]

theorem State.postOwner_eq (s : State) (l : Fin 32) (e : Event) :
    s.postOwner l e = { s with ports := (s.postOwner l e).ports } := by
  unfold State.postOwner
  split <;> rfl

theorem State.postOwner_port_owner {l : Fin 32} {q : Port} (h : (s.line l).owner = some q) (e : Event) :
    OneReceives s (s.postOwner l e) q e := fun q' => by
  simp only [State.postOwner_port, h, Option.some.injEq, eq_comm]

theorem State.postOwner_unbound {l : Fin 32} (h : (s.line l).owner = none) (e : Event) : s.postOwner l e = s := by
  simp only [State.postOwner, h]

/-- The report of an ending touches the ports alone. -/
theorem State.reportEnding_eq (s : State) (l : Fin 32) (e : Ending) :
    s.reportEnding l e = { s with ports := (s.reportEnding l e).ports } := by
  unfold State.reportEnding
  split
  · rfl
  · split
    · rfl
    · exact s.postOwner_eq l _

/-- An ending touches lines, ports, the pool and the table alone. -/
theorem State.endCall_eq (s : State) (l : Fin 32) (e : Ending) (b : Bool) :
    s.endCall l e b =
      { s with
        lines := (s.endCall l e b).lines, ports := (s.endCall l e b).ports
        jobs := s.jobs.filter fun j => j.line != l, reverts := s.reverts.filter fun r => r.line != l } := by
  obtain ⟨ps, hps⟩ : ∃ ps, (s.cutDrive l).reportEnding l e = { s.cutDrive l with ports := ps } :=
    ⟨_, State.reportEnding_eq _ l e⟩
  unfold State.endCall
  rw [hps]
  cases b <;> rfl

/-- The ports after an ending are those after its report. -/
theorem State.endCall_port (s : State) (l : Fin 32) (e : Ending) (b : Bool) (q : Port) :
    (s.endCall l e b).port q = ((s.cutDrive l).reportEnding l e).port q :=
  State.port_congr (((s.cutDrive l).reportEnding l e).releaseIf_ports b l) q

/-- A cancel tells nobody (R70, R109). -/
theorem State.endCall_cancelled_ports (s : State) (l : Fin 32) (b : Bool) : (s.endCall l .cancelled b).ports = s.ports := by
  have h : (s.cutDrive l).reportEnding l .cancelled = s.cutDrive l := by
    unfold State.reportEnding
    split <;> rfl
  unfold State.endCall
  rw [h]
  cases b <;> rfl

/-- The event that an ending reports is received by the owner of the line, as the line was bound. -/
theorem State.endCall_reports {l : Fin 32} {j : Job} {e : Ending} {ev : Event} {q : Port} (b : Bool)
    (hj : s.job? l = some j) (he : s.endingEvent j e = some ev) (ho : (s.line l).owner = some q) :
    OneReceives s (s.endCall l e b) q ev := fun q' => by
  have hreport : (s.cutDrive l).reportEnding l e = (s.cutDrive l).postOwner l ev := by
    have hj' : (s.cutDrive l).job? l = some j := hj
    have he' : (s.cutDrive l).endingEvent j e = some ev := he
    simp only [State.reportEnding, hj', he']
  have howner : ((s.cutDrive l).line l).owner = some q := by
    rw [State.cutDrive, State.modLine_line_self]; exact ho
  rw [State.endCall_port, hreport, State.postOwner_port_owner howner ev q']
  rfl

/-! ### The pool after an ending (R54, R71) -/

/-- What an ending outside an expiry leaves: the line's drive cut, its binding where it is released, its job and revert gone,
and one pass where the job held a reservation. -/
structure CallEnded (s t : State) (l : Fin 32) (released : Bool) : Prop where
  rest : t = { s with
    ports := t.ports, lines := t.lines, jobs := t.jobs, reverts := s.reverts.filter fun r => r.line != l }
  line : t.line l =
    if released then { s.line l with drive := none, owner := none, parked := false } else { s.line l with drive := none }
  others : OtherLinesSame s t l
  pool : PoolAfterEnding s t l

theorem State.holdsReservation_iff {l : Fin 32} {j : Job} (h : s.job? l = some j) :
    s.holdsReservation l = true ↔ j.state = .placed ∨ j.state = .ringing := by
  simp only [State.holdsReservation, h, Job.placed_iff]

theorem State.endCallAndPass_pool (s : State) (l : Fin 32) (e : Ending) (b : Bool) :
    PoolAfterEnding s (s.endCallAndPass l e b) l := by
  have hsame : SameSchedule { s with jobs := s.jobs.filter fun j => j.line != l } (s.endCall l e b) := by
    constructor <;> rw [State.endCall_eq]
  unfold PoolAfterEnding State.endCallAndPass
  dsimp only
  cases hj : s.job? l with
  | none =>
    have hr : s.holdsReservation l = false := by simp only [State.holdsReservation, hj]
    rw [hr]
    exact hsame.jobs
  | some j =>
    dsimp only
    split
    · next h => rw [(State.holdsReservation_iff hj).2 h]; exact hsame.pass_jobs
    · next h => rw [Bool.eq_false_iff.2 (mt (State.holdsReservation_iff hj).1 h)]; exact hsame.jobs

theorem CallEnded.endCallAndPass (s : State) (l : Fin 32) (e : Ending) (b : Bool) :
    CallEnded s (s.endCallAndPass l e b) l b where
  rest := by
    obtain ⟨js, hjs⟩ : ∃ js, s.endCallAndPass l e b = { s.endCall l e b with jobs := js } := ⟨_, State.passIf_eq _ _⟩
    rw [hjs, State.endCall_eq]
  line := by
    rw [State.endCallAndPass, State.line_congr (State.passIf_lines _ _), State.endCall_line, if_pos rfl]
  others k hk := by
    rw [State.endCallAndPass, State.line_congr (State.passIf_lines _ _), State.endCall_line, if_neg hk]
  pool := s.endCallAndPass_pool l e b

/-- The pool after an ending depends on the pool and what a pass reads. -/
theorem PoolAfterEnding.of_same {u : State} {l : Fin 32} (h : PoolAfterEnding u t l) (hs : SameSchedule s u) :
    PoolAfterEnding s t l := by
  have hjob : u.job? l = s.job? l := by rw [State.job?, State.job?, hs.jobs]
  have hfilter : SameSchedule { s with jobs := s.jobs.filter fun j => j.line != l }
      { u with jobs := u.jobs.filter fun j => j.line != l } :=
    ⟨by rw [hs.jobs], hs.pos, hs.patterns, hs.feeds, hs.battery, hs.policy⟩
  unfold PoolAfterEnding at h ⊢
  dsimp only at h ⊢
  rwa [hjob, hfilter.pass_jobs, hs.jobs] at h

/-! ### The cancels (R68, R111) -/

theorem State.cancelReleases_iff {l : Fin 32} :
    s.cancelReleases l = true ↔
      supervisionMet s l = .onHook ∧ (s.line l).drive = none ∧ (s.line l).scan.view = .clear := by
  simp [State.cancelReleases, State.seen_eq, and_assoc]

section
variable {p : Port} {tag line : Byte} {l : Fin 32} {j : Job} {r : Revert} {st : Status}

theorem cancelRingReply_badArgument (h : argLine line = none) : cancelRingReply p line s = refuse s .badArgument := by
  simp only [cancelRingReply, h]

/-- A line without an ordinary job. -/
theorem cancelRingReply_noJob (h : argLine line = some l) (hj : ∀ j, s.job? l = some j → j.turn ≠ none) :
    cancelRingReply p line s = refuse s .noJob := by
  simp only [cancelRingReply, h]
  split
  · rfl
  · next j hs => rw [if_pos (Option.isSome_iff_ne_none.2 (hj j hs))]

theorem cancelRingReply_heldByOther (h : argLine line = some l) (hj : s.job? l = some j) (ht : j.turn = none)
    (ho : j.owner ≠ p) : cancelRingReply p line s = refuse s .heldByOther := by
  simp [cancelRingReply, h, hj, ht, ho]

theorem cancelRingReply_ended (h : argLine line = some l) (hj : s.job? l = some j) (ht : j.turn = none)
    (ho : j.owner = p) :
    cancelRingReply p line s =
      ⟨s.endCallAndPass l .cancelled (s.cancelReleases l), .ok,
        [jobStateCode j.state, byteOf j.framesRung, byteOf j.shedCount] ++
          [Config.bindingCode (!s.cancelReleases l)]⟩ := by
  simp [cancelRingReply, h, hj, ht, ho]

theorem cancelRevertReply_badArgument (h : argLine line = none) :
    cancelRevertReply p line s = refuse s .badArgument := by
  simp only [cancelRevertReply, h]

theorem cancelRevertReply_noRevert (h : argLine line = some l) (hr : s.revert? l = none) :
    cancelRevertReply p line s = refuse s .noRevert := by
  simp only [cancelRevertReply, h, hr]

theorem cancelRevertReply_heldByOther (h : argLine line = some l) (hr : s.revert? l = some r) (ho : r.owner ≠ p) :
    cancelRevertReply p line s = refuse s .heldByOther := by
  simp only [cancelRevertReply, h, hr, if_pos ho]

theorem cancelRevertReply_ended (h : argLine line = some l) (hr : s.revert? l = some r) (ho : r.owner = p)
    (hj : s.job? l = some j) :
    cancelRevertReply p line s =
      ⟨s.endCallAndPass l .cancelled (s.cancelReleases l), .ok,
        [revertStateCode r.state, jobStateCode j.state, byteOf j.framesRung] ++
          [Config.bindingCode (!s.cancelReleases l)]⟩ := by
  simp only [cancelRevertReply, h, hr, if_neg (not_not.2 ho), cancelRevertPayload, hj]
  rfl

theorem cancelRing_refuses (hr : Ready s p) (hs : s.inService p = true) (h : cancelRingReply p line s = refuse s st) :
    Refuses (.cancelRing p tag line) s p tag 0x07 [line] (statusCode st) :=
  refuses_of_reply (k := .cancelRing) rfl hr rfl hs h

theorem cancelRevert_refuses (hr : Ready s p) (hp : p ≠ .m) (hs : s.inService p = true)
    (h : cancelRevertReply p line s = refuse s st) :
    Refuses (.cancelRevert p tag line) s p tag 0x0A [line] (statusCode st) :=
  refuses_of_reply (k := .cancelRevert) rfl hr (isPlane_of_ne hp) hs h

end

/-- What either cancel does once its checks have passed. -/
theorem cancel_done {k : Kind} {p : Port} {tag line : Byte} {h : State → Reply} {c : Instr} {l : Fin 32}
    {ended : List Byte} (hc : exec c s = .next (request k p tag [line] h s)) (hready : Ready s p)
    (hp : permitted k p = true) (hserv : s.inService p = true)
    (hh : h s = ⟨s.endCallAndPass l .cancelled (s.cancelReleases l), .ok,
      ended ++ [Config.bindingCode (!s.cancelReleases l)]⟩) :
    let released := supervisionMet s l = .onHook ∧ (s.line l).drive = none ∧ (s.line l).scan.view = .clear
    ∃ t, exec c s = .next t ∧
      t = { s with ports := t.ports, lines := t.lines, jobs := t.jobs, reverts := t.reverts } ∧
      (released → t.line l = { s.line l with drive := none, owner := none, parked := false }) ∧
      (¬released → t.line l = { s.line l with drive := none }) ∧ OtherLinesSame s t l ∧
      PoolAfterEnding s t l ∧
      t.reverts = s.reverts.filter (fun r => r.line != l) ∧
      ∃ code : Byte,
        (released → code = Config.bindingCode false) ∧ (¬released → code = Config.bindingCode true) ∧
        Answers s t p [tag, k.code, line] (tag :: (k.code ||| 0x80) :: 0x00 :: (ended ++ [code])) := by
  intro released
  have hexec := exec_answered hc hready hp hserv
  rw [hh] at hexec
  have hiff : s.cancelReleases l = true ↔ released := State.cancelReleases_iff
  have hports : (s.endCallAndPass l .cancelled (s.cancelReleases l)).ports = s.ports :=
    (State.passIf_ports _ _).trans (s.endCall_cancelled_ports l _)
  obtain ⟨hrest, hline, hothers, hpool⟩ := CallEnded.endCallAndPass s l .cancelled (s.cancelReleases l)
  generalize s.endCallAndPass l .cancelled (s.cancelReleases l) = u at *
  generalize s.cancelReleases l = b at *
  refine ⟨_, hexec, ?_, fun h => ?_, fun h => ?_, hothers, hpool, by rw [State.answer_eq, hrest],
    Config.bindingCode (!b), fun h => by rw [hiff.2 h]; rfl, fun h => by rw [Bool.eq_false_iff.2 (mt hiff.1 h)]; rfl,
    answers_answer hports p tag k.code [line] .ok _⟩
  · obtain ⟨ps, ls, js, hu⟩ : ∃ ps ls js, u =
        { s with ports := ps, lines := ls, jobs := js, reverts := s.reverts.filter fun r => r.line != l } :=
      ⟨_, _, _, hrest⟩
    rw [hu]
    rfl
  · exact hline.trans (if_pos (hiff.2 h))
  · exact hline.trans (if_neg (mt hiff.1 h))

/-- Settles O15: both cancels end the line's call without a report, and their checks refuse in order. -/
theorem cancelsEndTheWork : Obligations.CancelsEndTheWork := by
  refine ⟨fun s p tag line l j hready hserv hl hj ht ho => ?_, fun s p tag line l r j hp hready hserv hl hr hj ho => ?_,
    fun s p tag line hready hserv => ⟨fun h => ?_, fun h hp => ?_, fun l hl => ⟨?_, fun hp => ?_⟩⟩⟩
  · exact cancel_done (k := .cancelRing) rfl hready rfl hserv (cancelRingReply_ended (argBelow_eq_some hl) hj ht ho)
  · exact cancel_done (k := .cancelRevert) rfl hready (isPlane_of_ne hp) hserv
      (cancelRevertReply_ended (argBelow_eq_some hl) hr ho hj)
  · exact cancelRing_refuses hready hserv (cancelRingReply_badArgument (argBelow_eq_none_iff.2 h))
  · exact cancelRevert_refuses hready hp hserv (cancelRevertReply_badArgument (argBelow_eq_none_iff.2 h))
  · refine ⟨fun h => cancelRing_refuses hready hserv (cancelRingReply_noJob (argBelow_eq_some hl) h), fun hsome =>
      ⟨fun ⟨j, hj, ho⟩ => ?_, fun _ => trivial⟩⟩
    have ht : j.turn = none := by
      by_contra hne
      exact hsome fun i hi => Option.some.inj (hj.symm.trans hi) ▸ hne
    exact cancelRing_refuses hready hserv (cancelRingReply_heldByOther (argBelow_eq_some hl) hj ht ho)
  · exact ⟨fun h => cancelRevert_refuses hready hp hserv (cancelRevertReply_noRevert (argBelow_eq_some hl) h), fun _ =>
      ⟨fun ⟨r, hr, ho⟩ => cancelRevert_refuses hready hp hserv
        (cancelRevertReply_heldByOther (argBelow_eq_some hl) hr ho), fun _ => trivial⟩⟩

/-! ### Off-hook and trip findings (R63, R64, R100, R107) -/

/-- The finding taken was the oldest of the line's. -/
theorem findingsOf_eq_cons {l : Fin 32} {k : FindingKind} (h : s.nextFinding l = some k) :
    findingsOf s l = k :: findingsOf (s.takeFinding l) l := by
  rw [State.nextFinding_eq] at h
  rw [takeFinding_findingsOf]
  exact List.eq_cons_of_mem_head? h

/-- An off-hook finding and a trip finding are handed on alike (R80, R81). -/
theorem exec_offHook {l : Fin 32} {k : FindingKind} {c : Instr}
    (h : k = .offHook ∧ c = .offHookFinding l ∨ k = .trip ∧ c = .tripFinding l) (hk : s.nextFinding l = some k) :
    exec c s = .next ((s.takeFinding l).takeOffHook l) := by
  rcases h with ⟨rfl, rfl⟩ | ⟨rfl, rfl⟩
  · exact congrArg Host.Outcome.next (if_pos hk)
  · exact congrArg Host.Outcome.next (if_pos hk)

/-- A revert in AWAIT_HANGUP is left alone (R107). -/
theorem State.takeOffHook_awaiting {l : Fin 32} {r : Revert} (hr : s.revert? l = some r)
    (ha : r.state = .awaitHangup) : s.takeOffHook l = s := by
  simp only [State.takeOffHook, hr, if_pos ha]

/-- How an off-hook ends the job of a line: a revert's job, and an ordinary one that rings, is answered (R63, R64, R100). -/
def offHookEnding (j : Job) : Ending :=
  if j.turn.isSome = true ∨ j.state = .ringing then .answered else .offHookAtStart

theorem State.takeOffHook_ends {l : Fin 32} {j : Job} (hj : s.job? l = some j)
    (h : (s.revert? l = none ∧ j.turn = none ∧ j.state ≠ .reserved) ∨
      ∃ r, s.revert? l = some r ∧ r.state ≠ .awaitHangup ∧ j.turn.isSome = true) :
    s.takeOffHook l = s.endCallAndPass l (offHookEnding j) false := by
  rcases h with ⟨hr, ht, hv⟩ | ⟨r, hr, ha, ht⟩
  · simp only [State.takeOffHook, hr, hj, offHookEnding, ht]
    cases hs : j.state
    case reserved => exact absurd hs hv
    all_goals rfl
  · simp only [State.takeOffHook, hr, if_neg ha, offHookEnding, ht, true_or, if_true]

/-- The event by which an off-hook ends the job (R70, R109). -/
theorem State.endingEvent_offHook {l : Fin 32} {j : Job} (hl : j.line = l) :
    s.endingEvent j (offHookEnding j) = some
      { kind := if j.turn.isSome then .revertAnswered else if j.state = .ringing then .ringAnswered else .ringEnded
        line := some l, party := some j.party
        detail := if j.turn.isSome ∨ j.state = .ringing then BitVec.ofNat 8 0 ++ BitVec.ofNat 8 j.framesRung else 3
        serial := none, stamp := s.stamp } := by
  subst hl
  unfold offHookEnding
  by_cases ht : j.turn.isSome = true
  · simp [ht, State.endingEvent, State.partyEvent, detail, byteOf]
  · by_cases hv : j.state = .ringing
    · simp [ht, hv, State.endingEvent, State.partyEvent, detail, byteOf]
    · simp only [ht, hv, if_false, State.endingEvent, State.partyEvent]
      rfl

/-- Settles O38: the finding is taken and the line's call ends as an answer or OFF_HOOK_AT_START. -/
theorem offHookEndsTheJob : Obligations.OffHookEndsTheJob := by
  intro s l k c j hkind hk hj
  have hexec := exec_offHook hkind hk
  have hfindings := findingsOf_eq_cons hk
  have hj' : (s.takeFinding l).job? l = some j := hj
  refine ⟨fun r hr ha => ⟨s.takeFinding l, ?_, rfl, hfindings⟩, fun h => ?_⟩
  · have hr' : (s.takeFinding l).revert? l = some r := hr
    rw [hexec, State.takeOffHook_awaiting hr' ha]
  · rw [State.takeOffHook_ends hj' h] at hexec
    obtain ⟨hrest, hline, hothers, hpool⟩ := CallEnded.endCallAndPass (s.takeFinding l) l (offHookEnding j) false
    have hidle := (State.endCall_idle (s.takeFinding l) l (offHookEnding j) false).2
    have hreport (q : Port) (ho : (s.line l).owner = some q) :=
      State.endCall_reports (s := s.takeFinding l) (q := q) false hj' (State.endingEvent_offHook (State.job?_line hj)) ho
    refine ⟨_, hexec, ?_, ?_, hline, hothers, hpool.of_same ⟨rfl, rfl, rfl, rfl, rfl, rfl⟩, ?_, fun q ho q' => ?_⟩
    · obtain ⟨ps, ls, js, hu⟩ : ∃ ps ls js, (s.takeFinding l).endCallAndPass l (offHookEnding j) false =
          { s.takeFinding l with
            ports := ps, lines := ls, jobs := js, reverts := s.reverts.filter fun r => r.line != l } := ⟨_, _, _, hrest⟩
      rw [hu]
      rfl
    · rw [hfindings, hrest]
      rfl
    · rw [State.hasRevert, State.revert?, State.endCallAndPass, State.passIf_reverts]
      exact hidle
    · exact (State.port_congr (State.passIf_ports _ _) q').trans (hreport q ho q')

end Sys2Proof.Machine
end

section
/-! PROOFS. The hang-up that a revert awaits starts the ringing of the called party (R82, R99). -/

namespace Sys2Proof.Machine

variable {s t : State}

/-- The revert of the line changed is the changed revert; any other line's is as before. -/
theorem State.modRevert_revert? (s : State) (l k : Fin 32) (g : Revert → Revert) (h : ∀ r, (g r).line = r.line) :
    (s.modRevert l g).revert? k = if k = l then (s.revert? k).map g else s.revert? k := by
  have hkey : ((fun r => r.line == k) ∘ fun r => if r.line = l then g r else r) = fun r : Revert => r.line == k := by
    funext r
    simp only [Function.comp]
    split
    · rw [h]
    · rfl
  simp only [State.modRevert, State.revert?, List.find?_map, hkey]
  cases hr : s.reverts.find? fun r => r.line == k with
  | none => simp
  | some r =>
    have hline : r.line = k := State.revert?_line hr
    subst hline
    split
    · next e => simp [e]
    · next e => simp [e]

theorem exec_onHook {l : Fin 32} (h : s.nextFinding l = some .onHook) :
    exec (.onHookFinding l) s = .next ((s.takeFinding l).takeOnHook l) := congrArg Host.Outcome.next (if_pos h)

/-- The revert rings the called party, before the pass (R99). -/
def State.callCalled (s : State) (l : Fin 32) (y : Fin 8) (i : Fin 192) : State :=
  (s.modRevert l fun r => { r with state := .ringingCalled }).modJob l (s.stationedJob l y i)

/-- REVERT_RINGING for a job as the pass has left it (R99, R188). -/
def State.revertRingingEvent (s : State) (l : Fin 32) (y : Fin 8) (v : JobState) : Event :=
  s.partyEvent .revertRinging l y (detail 0 (jobStateCode v))

/-- What the hang-up that a revert awaits does: one pass with the called party's job, then REVERT_RINGING; parked is
cleared. -/
theorem State.takeOnHook_awaiting {l : Fin 32} {r : Revert} {i : Fin 192} {j' : Job} (hr : s.revert? l = some r)
    (ha : r.state = .awaitHangup) (hi : stationIndex (s.line l).desc r.called = some i)
    (hj' : (s.callCalled l r.called i).pass.job? l = some j') :
    s.takeOnHook l =
      ((s.callCalled l r.called i).pass.postOwner l (s.revertRingingEvent l r.called j'.state)).modLine l
        fun x => { x with parked := false } := by
  have hstart : (s.modRevert l fun r => { r with state := .ringingCalled }).modJob l (s.takeStation r.called) =
      s.callCalled l r.called i :=
    State.modJob_congr fun j _ hl => State.takeStation_eq hl hi
  have hstamp : (s.callCalled l r.called i).pass.stamp = s.stamp := State.pass_stamp _
  simp only [State.takeOnHook, hr, if_pos ha, State.startRevertRinging, hstart, State.jobStateByte, hj',
    State.revertRingingEvent, State.partyEvent, hstamp]

/-- Settles O40: the called party's job passes the pool once, and the owner is told what became of it. -/
theorem hangUpStartsTheRevert : Obligations.HangUpStartsTheRevert := by
  intro s l r j i q hk hr ha hj ho hcount hi
  have hidx := stationIndex_eq_some_iff.2 ⟨hcount, hi⟩
  have hexec := exec_onHook hk
  obtain ⟨u, hu⟩ : ∃ u, u = (s.takeFinding l).callCalled l r.called i := ⟨_, rfl⟩
  have hjob : u.job? l = some (s.stationedJob l r.called i j) := by
    rw [hu]
    exact State.modJob_job?_self (s := (s.takeFinding l).modRevert l _) (g := s.stationedJob l r.called i) hj fun _ => rfl
  have hrevert : u.revert? l = some { r with state := .ringingCalled } := by
    rw [hu]
    refine ((s.takeFinding l).modRevert_revert? l l (fun r => { r with state := .ringingCalled }) fun _ => rfl).trans ?_
    rw [if_pos rfl]
    exact congrArg (Option.map _) hr
  have hsame : SameSchedule (s.modJob l (s.stationedJob l r.called i)) u := by subst hu; exact ⟨rfl, rfl, rfl, rfl, rfl, rfl⟩
  obtain ⟨j', hj', hpass⟩ := State.pass_job? hjob
  rw [State.takeOnHook_awaiting (s := s.takeFinding l) hr ha hidx (hu ▸ hj'), ← hu] at hexec
  obtain ⟨js, hjs⟩ : ∃ js, u.pass = { u with jobs := js } := ⟨_, u.pass_eq⟩
  have howner : (u.pass.line l).owner = some q := by rw [hjs, hu]; exact ho
  have hpost := State.postOwner_port_owner howner ((s.takeFinding l).revertRingingEvent l r.called j'.state)
  obtain ⟨v, hv⟩ : ∃ v, v = u.pass.postOwner l ((s.takeFinding l).revertRingingEvent l r.called j'.state) := ⟨_, rfl⟩
  obtain ⟨ps, hps⟩ : ∃ ps, v = { u.pass with ports := ps } := ⟨_, hv ▸ u.pass.postOwner_eq l _⟩
  rw [← hv] at hexec hpost
  have hline (k : Fin 32) : v.line k = s.line k := by rw [hps, hjs, hu]; rfl
  have hjobs : v.jobs = u.pass.jobs := by rw [hps]
  refine ⟨_, j', hexec, ?_, ?_, fun k hk => ?_, ?_, ?_, ?_, ?_, ⟨?_, ?_⟩, fun q' => ?_⟩
  · rw [hps, hjs, hu]
    rfl
  · rw [State.modLine_line_self, hline]
  · rw [State.modLine_line_other _ _ hk, hline]
  · rw [← hrevert, hps, hjs]
    rfl
  · calc v.jobs.map (·.line) = u.jobs.map (·.line) := by rw [hjobs, u.pass_jobLines]
      _ = s.jobs.map (·.line) := by rw [hsame.jobs]; exact s.modJob_jobLines l _ fun _ => rfl
  · exact hjobs.trans hsame.pass_jobs
  · rw [← hj', hps]
    rfl
  · cases hpass <;> rfl
  · exact hpass.on_target (s := s) rfl rfl rfl
  · have hport : u.pass.port q' = s.port q' := by rw [hjs, hu]; rfl
    have hq := hpost q'
    rw [hport] at hq
    exact hq

end Sys2Proof.Machine
end

section
/-! PROOFS. A feed's failure: its jobs move to the targets of R47, one pass runs where a reservation went, and the failure is
posted and captured (R119, R120, R171, R173). -/

namespace Sys2Proof.Machine

variable {s t : State}

/-! ### Moving jobs off a feed (R120) -/

/-- The job of a line once the whole pool is changed job by job. -/
theorem State.job?_of_map {l : Fin 32} {j : Job} {g : Job → Job} (hj : s.job? l = some j)
    (ht : t.jobs = s.jobs.map g) (hg : ∀ j, (g j).line = j.line) : t.job? l = some (g j) := by
  have hkey : ((fun j => j.line == l) ∘ g) = fun j : Job => j.line == l := by
    funext j
    simp only [Function.comp, hg]
  have hfind : s.jobs.find? (fun j => j.line == l) = some j := hj
  rw [State.job?, ht, List.find?_map, hkey, hfind]
  rfl

theorem State.selectTarget_congr (hf : t.feeds = s.feeds) (hs : t.stations = s.stations) :
    t.selectTarget = s.selectTarget := by
  funext j
  unfold State.selectTarget State.target State.jobSelective State.feed State.station
  rw [hf, hs]

/-- A target selected twice is the target selected once. -/
theorem State.selectTarget_idem (s : State) (j : Job) : s.selectTarget (s.selectTarget j) = s.selectTarget j := by
  cases hb : j.home with
  | none => simp only [State.selectTarget, hb]
  | some b => simp only [State.selectTarget, hb, State.jobSelective]

/-- Moving jobs off a feed touches the pool and the lines alone, and selects the target of each job moved. -/
theorem State.moveOffs_eq (ls : List (Fin 32)) (s : State) :
    ls.foldl State.moveOff s =
      { s with
        jobs := s.jobs.map fun j => if j.line ∈ ls then s.selectTarget j else j
        lines := (ls.foldl State.moveOff s).lines } := by
  induction ls generalizing s with
  | nil => simp
  | cons l ls ih =>
    have hselect : (s.moveOff l).selectTarget = s.selectTarget := State.selectTarget_congr rfl rfl
    have hjobs : ((s.moveOff l).jobs.map fun j => if j.line ∈ ls then s.selectTarget j else j) =
        s.jobs.map fun j => if j.line ∈ l :: ls then s.selectTarget j else j := by
      change ((s.jobs.map fun j => if j.line = l then s.selectTarget j else j).map _) = _
      rw [List.map_map]
      refine List.map_congr_left fun j _ => ?_
      by_cases hl : j.line = l
      · simp [hl, s.selectTarget_idem]
      · simp [hl]
    rw [List.foldl_cons, ih, hselect, hjobs]
    rfl

/-- The lines of the jobs moved have their drives cut. -/
theorem State.moveOffs_line (ls : List (Fin 32)) (s : State) (k : Fin 32) :
    (ls.foldl State.moveOff s).line k = if k ∈ ls then { s.line k with drive := none } else s.line k := by
  induction ls generalizing s with
  | nil => rfl
  | cons l ls ih =>
    have hcut : (s.moveOff l).line k = if k = l then { s.line l with drive := none } else s.line k :=
      (s.modJob l s.selectTarget).modLine_line l k fun x => { x with drive := none }
    rw [List.foldl_cons, ih, hcut]
    by_cases h : k = l
    · subst h
      simp
    · simp [h]

/-! ### The feed's failure (R119) -/

/-- The feed's record right after it failed (R119 steps 1 and 2). -/
def State.feedFailed (s : State) (f : Feed) : State :=
  s.modFeed f fun x => { x with state := .failed, absentRun := 0, presentRun := 0, latch := true, frozen := true }

theorem State.feedFailed_good_iff {f h : Feed} :
    ((s.feedFailed f).feed h).state = .good ↔ h ≠ f ∧ (s.feed h).state = .good := by
  by_cases e : h = f
  · subst e
    rw [State.feedFailed, State.modFeed_feed_self]
    simp
  · rw [State.feedFailed, State.modFeed_feed_other _ _ e]
    simp [e]

theorem State.feedFailed_fallback (s : State) (f h : Feed) : ((s.feedFailed f).feed h).fallback = (s.feed h).fallback := by
  by_cases e : h = f
  · subst e
    rw [State.feedFailed, State.modFeed_feed_self]
  · rw [State.feedFailed, State.modFeed_feed_other _ _ e]

/-- The lines whose jobs stand on a feed. -/
def State.linesOn (s : State) (f : Feed) : List (Fin 32) := (s.jobs.filter fun j => j.current == some f).map (·.line)

theorem State.mem_linesOn_iff (hn : (s.jobs.map (·.line)).Nodup) {f : Feed} {l : Fin 32} :
    l ∈ s.linesOn f ↔ ∃ j, s.job? l = some j ∧ j.current = some f := by
  simp only [State.linesOn, List.mem_map, List.mem_filter, beq_iff_eq, State.job?_eq_some_iff hn]
  exact exists_congr fun j => ⟨fun ⟨⟨hm, hc⟩, hl⟩ => ⟨⟨hm, hl⟩, hc⟩, fun ⟨⟨hm, hl⟩, hc⟩ => ⟨⟨hm, hc⟩, hl⟩⟩

/-- The part once the jobs of a failed feed have moved, before the pass. -/
def State.movedOff (s : State) (f : Feed) : State := (s.linesOn f).foldl State.moveOff (s.feedFailed f)

/-- What the failure makes of a job. -/
def State.movedJob (s : State) (f : Feed) (j : Job) : Job :=
  if j.current = some f then (s.feedFailed f).selectTarget j else j

theorem State.movedJob_line (s : State) (f : Feed) (j : Job) : (s.movedJob f j).line = j.line := by
  unfold State.movedJob
  split
  · simp
  · rfl

/-- The pool, and the rest of the part, once the jobs have moved. -/
theorem State.movedOff_eq (hn : (s.jobs.map (·.line)).Nodup) (f : Feed) :
    s.movedOff f =
      { s with
        feeds := (s.feedFailed f).feeds, jobs := s.jobs.map (s.movedJob f), lines := (s.movedOff f).lines } := by
  have hjobs : (s.jobs.map fun j => if j.line ∈ s.linesOn f then (s.feedFailed f).selectTarget j else j) =
      s.jobs.map (s.movedJob f) := by
    refine List.map_congr_left fun j hj => ?_
    have hiff : j.line ∈ s.linesOn f ↔ j.current = some f := by
      rw [State.mem_linesOn_iff hn, (State.job?_eq_some_iff hn).2 ⟨hj, rfl⟩]
      simp
    simp only [State.movedJob, hiff]
  unfold State.movedOff
  rw [State.moveOffs_eq, ← hjobs]
  rfl

theorem State.movedOff_jobLines (hn : (s.jobs.map (·.line)).Nodup) (f : Feed) :
    (s.movedOff f).jobs.map (·.line) = s.jobs.map (·.line) := by
  rw [State.movedOff_eq hn, List.map_map]
  exact List.map_congr_left fun j _ => s.movedJob_line f j

theorem State.movedOff_job? (hn : (s.jobs.map (·.line)).Nodup) {l : Fin 32} {j : Job} (f : Feed)
    (hj : s.job? l = some j) : (s.movedOff f).job? l = some (s.movedJob f j) :=
  State.job?_of_map hj (by rw [State.movedOff_eq hn]) (s.movedJob_line f)

/-- A job in shape moves to the target that R47 selects with the feed FAILED. -/
theorem State.movedJob_eq {f h : Feed} {i : Fin 192} {j : Job} (hc : j.current = some f) (hh : j.home = some h)
    (hi : j.station = some i) :
    s.movedJob f j =
      { j with
        state := (chosenTarget (s.feedFailed f) h (s.station i).selective).1
        current := (chosenTarget (s.feedFailed f) h (s.station i).selective).2, phase := none, waitTimer := 0 } := by
  rw [State.movedJob, if_pos hc]
  exact State.selectTarget_eq hh hi

/-- No job in shape is left on the failed feed. -/
theorem State.movedJob_current {f : Feed} {j : Job} (hs : JobShape j) : (s.movedJob f j).current ≠ some f := by
  unfold State.movedJob
  split
  · exact fun h => (State.feedFailed_good_iff.1 (State.selectTarget_good hs h)).1 rfl
  · next h => exact h

/-- Whether a job on the feed held a reservation (R119 step 5). -/
def State.failureFrees (s : State) (f : Feed) : Bool :=
  s.jobs.any fun j => j.current == some f && (j.state == .placed || j.state == .ringing)

/-- The part as a failure settles it: the jobs moved, and one pass where a reservation went. -/
def State.failureSettled (s : State) (f : Feed) : State := (s.movedOff f).passIf (s.failureFrees f)

/-- FEED_STATE (R119 step 6, R121 step 7, R188). -/
def State.feedEvent (s : State) (f : Feed) (v : FeedState) : Event := s.plainEvent .feedState (feedDetail f v)

theorem State.failureSettled_eq (hn : (s.jobs.map (·.line)).Nodup) (f : Feed) :
    s.failureSettled f =
      { s with
        feeds := (s.feedFailed f).feeds, jobs := (s.failureSettled f).jobs, lines := (s.movedOff f).lines } := by
  obtain ⟨js, hjs⟩ : ∃ js, s.failureSettled f = { s.movedOff f with jobs := js } := ⟨_, State.passIf_eq _ _⟩
  rw [hjs, State.movedOff_eq hn]

/-- A failure settles the pool, is posted to all, and is captured. -/
theorem State.failFeed_eq (hn : (s.jobs.map (·.line)).Nodup) (f : Feed) :
    s.failFeed f = ((s.failureSettled f).postAll (s.feedEvent f .failed)).capture .feedFail (some f) none := by
  have hany : (s.jobs.filter fun j => j.current == some f).any Job.placed = s.failureFrees f := by
    rw [List.any_filter]
    rfl
  have hevent : (s.failureSettled f).plainEvent .feedState (feedDetail f .failed) = s.feedEvent f .failed := by
    rw [State.failureSettled_eq hn]
    rfl
  rw [← hevent, State.failureSettled, ← hany]
  rfl

theorem exec_feedFail {f : Feed} (hp : s.phase = .run) (hg : (s.feed f).state = .good) (ha : (s.feed f).absentRun = 29) :
    exec (.feedFail f) s = .next (s.failFeed f) :=
  congrArg Host.Outcome.next (if_pos ⟨hp, by simp [State.failDue, hg, ha]⟩)

/-- The pool as a failure leaves it, in the words of the claims: each job on the feed at its target, then the pass. -/
theorem State.failureSettled_jobs (hn : (s.jobs.map (·.line)).Nodup) (hs : JobsShaped s) {f : Feed}
    (ht : t.feeds = (s.feedFailed f).feeds) :
    let target (j : Job) : JobState × Option Feed :=
      match j.home, j.station with
      | some h, some i => chosenTarget t h (s.station i).selective
      | _, _ => (j.state, j.current)
    let u : State :=
      { s with
        feeds := t.feeds
        jobs := s.jobs.map fun j =>
          if j.current = some f then
            { j with state := (target j).1, current := (target j).2, phase := none, waitTimer := 0 }
          else j }
    (s.failureSettled f).jobs = if s.failureFrees f then u.pass.jobs else u.jobs := by
  intro target u
  have hmoved := State.movedOff_eq hn f
  have hjobs : u.jobs = s.jobs.map (s.movedJob f) := by
    refine List.map_congr_left fun j hj => ?_
    split
    · next hc =>
      have hr := not_reserved_of_current (hs j hj) (by simp [hc])
      obtain ⟨h1, -, -, h4, -, -⟩ := (jobShape_active hr).1 (hs j hj)
      obtain ⟨i, hi⟩ := Option.isSome_iff_exists.1 h1
      obtain ⟨h, hh⟩ := Option.isSome_iff_exists.1 h4
      have htarget : target j = chosenTarget (s.feedFailed f) h (s.station i).selective := by
        simp only [target, hh, hi]
        exact chosenTarget_congr (fun g => by rw [State.feed_congr ht]) (fun g => by rw [State.feed_congr ht]) _ _
      rw [State.movedJob_eq hc hh hi, htarget]
    · next hc => rw [State.movedJob, if_neg hc]
  have hsame : SameSchedule u (s.movedOff f) := by
    refine ⟨?_, ?_, ?_, ?_, ?_, ?_⟩ <;> rw [hmoved]
    · exact hjobs.symm
    · exact ht.symm
  unfold State.failureSettled
  cases s.failureFrees f with
  | false => exact hsame.jobs
  | true => exact hsame.pass_jobs

/-- A job on the failed feed goes where R47 sends it with that feed FAILED. -/
theorem State.failureSettled_moved (hn : (s.jobs.map (·.line)).Nodup) {l : Fin 32} {f h : Feed} {i : Fin 192} {j : Job}
    (hj : s.job? l = some j) (hc : j.current = some f) (hh : j.home = some h) (hi : j.station = some i) :
    ∃ j', (s.failureSettled f).job? l = some j' ∧
      j' = { j with waitTimer := 0, state := j'.state, current := j'.current, phase := j'.phase } ∧
      (if h ≠ f ∧ (s.feed h).state = .good then j'.current = some h ∧ (j'.state = .waiting ∨ j'.state = .placed)
       else if (s.station i).selective = false ∧ (s.feed h).fallback = true ∧ f ≠ .fb ∧ (s.feed .fb).state = .good then
         j'.current = some .fb ∧ (j'.state = .waiting ∨ j'.state = .placed)
       else j'.current = none ∧ j'.state = .suspended) ∧
      (j'.phase.isSome = true ↔ j'.state = .placed) := by
  obtain ⟨j', hj', hpass⟩ := State.passIf_job? (s.failureFrees f) (State.movedOff_job? hn f hj)
  have hjob := State.movedJob_eq (s := s) hc hh hi
  have htarget := hpass.on_target (s := s.feedFailed f) (b := h) (v := (s.station i).selective) (by rw [hjob])
    (by rw [hjob]) (by rw [hjob])
  rw [State.feedFailed_fallback] at htarget
  simp only [State.feedFailed_good_iff, ne_comm (a := Feed.fb)] at htarget
  refine ⟨j', hj', ?_, htarget⟩
  rw [hjob] at hpass
  cases hpass <;> rfl

/-- Settles O42: the failure settles the pool, and is then posted and captured. -/
theorem failureClearsTheFeed : Obligations.FailureClearsTheFeed := by
  intro s f hphase hpool hshaped hgood hrun e
  have hexec := exec_feedFail hphase hgood hrun
  rw [State.failFeed_eq hpool.2] at hexec
  have hsettled := State.failureSettled_eq hpool.2 f
  obtain ⟨t, ht⟩ :
      ∃ t, t = ((s.failureSettled f).postAll (s.feedEvent f .failed)).capture .feedFail (some f) none := ⟨_, rfl⟩
  obtain ⟨ps, fr, ms, htold⟩ :
      ∃ ps fr ms, t = { s.failureSettled f with ports := ps, faultRecord := fr, missed := ms } :=
    ⟨_, _, _, by rw [ht, State.capture_eq, State.postAll_eq]⟩
  have hfeeds : t.feeds = (s.feedFailed f).feeds := by rw [htold, hsettled]
  have hjobs : t.jobs = (s.failureSettled f).jobs := by rw [htold]
  have hjob (l : Fin 32) : t.job? l = (s.failureSettled f).job? l := by rw [State.job?, State.job?, hjobs]
  have hline (l : Fin 32) : t.line l = (s.movedOff f).line l := State.line_congr (by rw [htold, hsettled]) l
  have hpost (q : Port) : ((s.failureSettled f).postAll (s.feedEvent f .failed)).port q =
      if s.inService q = true then received (s.port q) e else s.port q := by
    rw [State.postAll_port, State.inService_congr (s := s) (by rw [hsettled]) (by rw [hsettled]),
      State.port_congr (s := s) (by rw [hsettled])]
    rfl
  rw [← ht] at hexec
  refine ⟨t, hexec, ?_, ?_, fun g hg => ?_, ?_, ?_, fun j hj => ?_, fun l j h i hj hc hh hi => ?_, fun l j hj hc hw => ?_,
    fun l => ?_, fun q hq => ?_, ?_⟩
  · rw [htold, hsettled]
  · exact (State.feed_congr hfeeds f).trans (s.modFeed_feed_self f _)
  · exact (State.feed_congr hfeeds g).trans (s.modFeed_feed_other _ hg)
  · rw [hjobs, State.failureSettled, State.passIf_jobLines, State.movedOff_jobLines hpool.2]
  · rw [hjobs]
    exact State.failureSettled_jobs hpool.2 hshaped hfeeds
  · rw [hjobs] at hj
    obtain ⟨k, hk, hpass⟩ := State.mem_passIf (by rw [State.movedOff_jobLines hpool.2]; exact hpool.2) hj
    rw [State.movedOff_eq hpool.2] at hk
    obtain ⟨i, hi, rfl⟩ := List.mem_map.1 hk
    rw [hpass.current]
    exact State.movedJob_current (hshaped i hi)
  · rw [hjob]
    exact State.failureSettled_moved hpool.2 hj hc hh hi
  · have hkept : (s.movedOff f).job? l = some j := by rw [State.movedOff_job? hpool.2 f hj, State.movedJob, if_neg hc]
    rw [hjob]
    exact State.passIf_job?_of_not_waiting _ hkept hw
  · rw [hline, State.movedOff, State.moveOffs_line]
    by_cases h : l ∈ s.linesOn f
    · rw [if_pos h, if_pos ((State.mem_linesOn_iff hpool.2).1 h)]
      rfl
    · rw [if_neg h, if_neg (mt (State.mem_linesOn_iff hpool.2).2 h)]
      rfl
  · have hm : q ≠ .m := by rintro rfl; cases hq
    rw [ht, State.capture_port_other _ _ _ _ hm, hpost]
  · have hcapture := ((s.failureSettled f).postAll (s.feedEvent f .failed)).capture_captures .feedFail (some f) none
    rw [← ht, (hpost .m).trans (if_pos rfl)] at hcapture
    exact hcapture.of_same (by rw [State.postAll_faultRecord, hsettled]) (by rw [State.postAll_missed, hsettled])
      (by rw [State.postAll_stamp, hsettled])

end Sys2Proof.Machine
end

section
/-! PROOFS. A feed's recovery: a generator takes its jobs home, FB moves none, and one pass runs (R121, R122). -/

namespace Sys2Proof.Machine

variable {s t : State}

/-! ### What a recovery makes of a job (R121) -/

theorem recoverJob_line (f : Feed) (j : Job) : (recoverJob f j).line = j.line := by
  rcases recoverJob_cases f j with e | ⟨-, ⟨-, e⟩ | ⟨-, e⟩ | ⟨-, e⟩⟩ <;> rw [e]

/-- What a recovery makes of a job, in the words of the claims. -/
theorem recoverJob_eq (f : Feed) (j : Job) :
    recoverJob f j =
      if j.home ≠ some f then j
      else if j.state = .suspended then { j with state := .waiting, current := some f, waitTimer := 0 }
      else if j.current = some .fb ∧ j.state = .waiting then { j with current := some f }
      else if j.current = some .fb ∧ j.state = .placed then
        { j with state := .waiting, current := some f, phase := none, waitTimer := 0 }
      else j := by
  unfold recoverJob
  by_cases hh : j.home = some f
  · rw [if_pos hh, if_neg (not_not.2 hh)]
    cases hs : j.state
    case waiting => by_cases hc : j.current = some .fb <;> simp [hc]
    case placed => by_cases hc : j.current = some .fb <;> simp [hc]
    all_goals simp
  · rw [if_neg hh, if_pos hh]

/-- A job of another home feed, and one that is RINGING or RESERVED, stays. -/
theorem recoverJob_stays {f : Feed} {j : Job} (h : j.home ≠ some f ∨ j.state = .ringing) : recoverJob f j = j := by
  rw [recoverJob_eq]
  rcases h with h | h
  · rw [if_pos h]
  · simp [h]

/-- A job in shape that a recovery sends home waits there, or is WAITING as before; it has no phase. -/
theorem recoverJob_sent {f : Feed} {j : Job} (hs : JobShape j) (hh : j.home = some f)
    (h : j.state = .suspended ∨ (j.current = some .fb ∧ (j.state = .waiting ∨ j.state = .placed))) :
    recoverJob f j =
      { j with
        state := .waiting, current := some f, phase := none
        waitTimer := if j.state = .waiting then j.waitTimer else 0 } := by
  obtain ⟨-, -, -, -, hp, -⟩ := (jobShape_active (not_reserved_of_home hs (by simp [hh]))).1 hs
  have hphase (hn : j.placed = false) : j.phase = none := by
    rw [← Option.not_isSome_iff_eq_none, hp, hn]
    simp
  rw [recoverJob_eq, if_neg (not_not.2 hh)]
  rcases h with hv | ⟨hc, hv | hv⟩
  · simp [hv, hphase (by simp [Job.placed, hv])]
  · simp only [hv, hc, hphase (by simp [Job.placed, hv])]
    rfl
  · simp [hv, hc]

/-- After a recovery a job in shape of that home feed is not SUSPENDED, and on FB only while it rings. -/
theorem recoverJob_home {f : Feed} {j j' : Job} (hs : JobShape j) (hf : f ≠ .fb) (hpass : PassedJob (recoverJob f j) j')
    (hh : j'.home = some f) : j'.state ≠ .suspended ∧ (j'.current = some .fb → j'.state = .ringing) := by
  have hhome : j.home = some f := by
    rw [hpass.home] at hh
    rcases recoverJob_cases f j with e | ⟨h, -⟩
    · rwa [e] at hh
    · exact h
  by_cases hsent : j.state = .suspended ∨ (j.current = some .fb ∧ (j.state = .waiting ∨ j.state = .placed))
  · rw [recoverJob_sent hs hhome hsent] at hpass
    refine ⟨fun hv => ?_, fun hc => absurd (Option.some.inj (hpass.current.symm.trans hc)) hf⟩
    rcases hpass.waiting_or_placed rfl with h | h <;> simp [h] at hv
  · obtain ⟨hsusp, hfb⟩ := not_or.1 hsent
    have hkept : recoverJob f j = j := by
      rw [recoverJob_eq, if_neg (not_not.2 hhome), if_neg hsusp, if_neg fun ⟨hc, hv⟩ => hfb ⟨hc, .inl hv⟩,
        if_neg fun ⟨hc, hv⟩ => hfb ⟨hc, .inr hv⟩]
    rw [hkept] at hpass
    cases hpass
    case placed ph hw => exact ⟨by simp, fun hc => absurd ⟨hc, .inl hw⟩ hfb⟩
    case same =>
      refine ⟨hsusp, fun hc => ?_⟩
      have hr := not_reserved_of_home hs (by simp [hhome])
      cases hv : j.state
      case ringing => rfl
      case reserved => exact absurd hv hr
      case suspended => exact absurd hv hsusp
      case waiting => exact absurd ⟨hc, .inl hv⟩ hfb
      case placed => exact absurd ⟨hc, .inr hv⟩ hfb

/-! ### The feed's recovery -/

/-- The part once the jobs of a recovered feed have moved, before the pass. -/
def State.sentHome (s : State) (f : Feed) : State :=
  if f = .fb then s.feedGood f else { s.feedGood f with jobs := (s.feedGood f).jobs.map (recoverJob f) }

/-- What the recovery makes of a job: FB's moves none (R122). -/
def sentJob (f : Feed) (j : Job) : Job := if f = .fb then j else recoverJob f j

theorem sentJob_line (f : Feed) (j : Job) : (sentJob f j).line = j.line := by
  unfold sentJob
  split
  · rfl
  · exact recoverJob_line f j

theorem State.sentHome_eq (s : State) (f : Feed) :
    s.sentHome f = { s with feeds := (s.feedGood f).feeds, jobs := s.jobs.map (sentJob f) } := by
  unfold State.sentHome sentJob
  by_cases h : f = .fb
  · simp only [if_pos h, List.map_id']
    rfl
  · simp only [if_neg h]
    rfl

/-- A recovery runs one pass and is posted to all. -/
theorem State.recoverFeed_eq (s : State) (f : Feed) :
    s.recoverFeed f = (s.sentHome f).pass.postAll (s.feedEvent f .good) := by
  have hevent : (s.sentHome f).pass.plainEvent .feedState (feedDetail f .good) = s.feedEvent f .good := by
    simp only [State.feedEvent, State.plainEvent, State.pass_stamp, State.sentHome_eq]
  rw [← hevent]
  rfl

/-- Each of the two rows is the recovery of its feed. -/
theorem exec_recovery {f : Feed} {c : Instr} (hp : s.phase = .run)
    (hc : c = .feedRecovery f ∧ f ≠ .fb ∨ c = .fbRecovery ∧ f = .fb) (hf : (s.feed f).state = .failed)
    (hl : (s.feed f).forcedLoss = false) (hn : (s.feed f).presentRun = 499) :
    exec c s = .next (s.recoverFeed f) := by
  have hdue : s.recoveryDue f = true := by simp [State.recoveryDue, hf, hl, hn]
  rcases hc with ⟨rfl, hne⟩ | ⟨rfl, rfl⟩
  · exact congrArg Host.Outcome.next (if_pos ⟨hp, hne, hdue⟩)
  · exact congrArg Host.Outcome.next (if_pos ⟨hp, hdue⟩)

/-- Settles O43: the jobs are sent home, one pass runs, and the recovery is posted. -/
theorem recoverySendsJobsHome : Obligations.RecoverySendsJobsHome := by
  intro s f c hphase hpool hshaped hc hfailed hloss hrun
  have hexec := exec_recovery hphase hc hfailed hloss hrun
  rw [State.recoverFeed_eq] at hexec
  have hsent := s.sentHome_eq f
  obtain ⟨t, ht⟩ : ∃ t, t = (s.sentHome f).pass.postAll (s.feedEvent f .good) := ⟨_, rfl⟩
  obtain ⟨ps, hps⟩ : ∃ ps, t = { (s.sentHome f).pass with ports := ps } := ⟨_, by rw [ht]; exact State.postAll_eq _ _⟩
  have hfeeds : t.feeds = (s.feedGood f).feeds := by rw [hps]; exact (State.pass_feeds _).trans (by rw [hsent])
  have hjobs : t.jobs = (s.sentHome f).pass.jobs := by rw [hps]
  have hjob (l : Fin 32) : t.job? l = (s.sentHome f).pass.job? l := by rw [State.job?, State.job?, hjobs]
  have hmap : (s.sentHome f).jobs = s.jobs.map (sentJob f) := by rw [hsent]
  have hlines : (s.sentHome f).jobs.map (·.line) = s.jobs.map (·.line) := by
    rw [hmap, List.map_map]
    exact List.map_congr_left fun j _ => sentJob_line f j
  rw [← ht] at hexec
  refine ⟨t, hexec, ?_, ?_, fun g hg => ?_, ?_, ?_, fun hf j' hj' hh => ?_, fun hf l j hj hh hv => ?_,
    fun l j hj hstays hw => ?_, fun q => ?_⟩
  · obtain ⟨js, hjs⟩ : ∃ js, (s.sentHome f).pass = { s.sentHome f with jobs := js } := ⟨_, State.pass_eq _⟩
    rw [hps, hjs, hsent]
  · exact (State.feed_congr hfeeds f).trans (s.modFeed_feed_self f _)
  · exact (State.feed_congr hfeeds g).trans (s.modFeed_feed_other _ hg)
  · rw [hjobs, State.pass_jobLines, hlines]
  · intro home
    have hhome : (if f = .fb then s.jobs else s.jobs.map home) = s.jobs.map (sentJob f) := by
      have hrecover : home = recoverJob f := funext fun j => (recoverJob_eq f j).symm
      unfold sentJob
      split
      · exact (List.map_id' _).symm
      · rw [hrecover]
    rw [hjobs, hhome]
    refine SameSchedule.pass_jobs ?_
    constructor <;> rw [hsent]
    rw [hfeeds]
  · rw [hjobs] at hj'
    obtain ⟨k, hk, hpass⟩ := State.mem_passIf (b := true) (by rw [hlines]; exact hpool.2) hj'
    rw [hmap] at hk
    obtain ⟨j, hj, rfl⟩ := List.mem_map.1 hk
    rw [sentJob, if_neg hf] at hpass
    exact recoverJob_home (hshaped j hj) hf hpass hh
  · obtain ⟨j', hj', hpass⟩ := State.pass_job? (State.job?_of_map hj hmap (sentJob_line f))
    rw [sentJob, if_neg hf, recoverJob_sent (hshaped j (State.job?_mem hj)) hh hv] at hpass
    exact ⟨j', (hjob l).trans hj', by cases hpass <;> rfl, hpass.waiting_or_placed rfl, hpass.phase_iff (by simp) rfl⟩
  · have hkept : sentJob f j = j := by
      unfold sentJob
      split
      · rfl
      · next hf => exact recoverJob_stays (hstays.resolve_left hf)
    have hk := State.job?_of_map hj hmap (sentJob_line f)
    rw [hkept] at hk
    rw [hjob]
    exact State.passIf_job?_of_not_waiting true hk hw
  · rw [ht, State.postAll_port, State.inService_congr (s := s) (by rw [State.pass_serviceA, hsent])
      (by rw [State.pass_serviceB, hsent]), State.port_congr (s := s) (by rw [State.pass_ports, hsent])]
    rfl

end Sys2Proof.Machine
end

section
/-! PROOFS. An expiry, line by line (R60): what is done for one line leaves every other line's record, job and revert, and adds
to the queues alone; so an expiry is, for one line, its own steps. -/

namespace Sys2Proof.Machine

variable {s t u : State} {l k : Fin 32}

/-! ### Events stay reported (R166) -/

theorem reported_received (r : PortRecord) (e : Event) : Reported (received r e) e := by
  unfold received
  split
  · exact .inl (by simp)
  · next h => exact .inr ⟨not_lt.1 h, rfl⟩

theorem Reported.received {r : PortRecord} {e : Event} (h : Reported r e) (e' : Event) : Reported (received r e') e := by
  unfold Machine.received
  split
  · next hlt =>
    rcases h with h | ⟨h, -⟩
    · exact .inl (List.mem_append_left _ h)
    · omega
  · next hge => exact h.imp id fun ⟨h, _⟩ => ⟨h, rfl⟩

/-! ### What one line's steps leave of another line -/

/-- The line's record, job and revert, and all that their steps read, are as they were; no report is lost. -/
structure KeepsLine (l : Fin 32) (s t : State) : Prop where
  rest : t = { s with lines := t.lines, feeds := t.feeds, jobs := t.jobs, reverts := t.reverts, ports := t.ports }
  line : t.line l = s.line l
  job : t.job? l = s.job? l
  revert : t.revert? l = s.revert? l
  feedState : ∀ f, (t.feed f).state = (s.feed f).state
  fallback : ∀ f, (t.feed f).fallback = (s.feed f).fallback
  reports : ∀ q e, Reported (s.port q) e → Reported (t.port q) e

namespace KeepsLine

theorem refl (l : Fin 32) (s : State) : KeepsLine l s s := ⟨rfl, rfl, rfl, rfl, fun _ => rfl, fun _ => rfl, fun _ _ => id⟩

theorem trans (h : KeepsLine l s t) (h' : KeepsLine l t u) : KeepsLine l s u where
  rest := by rw [h'.rest, h.rest]
  line := h'.line.trans h.line
  job := h'.job.trans h.job
  revert := h'.revert.trans h.revert
  feedState f := (h'.feedState f).trans (h.feedState f)
  fallback f := (h'.fallback f).trans (h.fallback f)
  reports q e hr := h'.reports q e (h.reports q e hr)

theorem modLine (s : State) (hk : k ≠ l) (g : Line → Line) : KeepsLine l s (s.modLine k g) where
  rest := rfl
  line := s.modLine_line_other g hk.symm
  job := rfl
  revert := rfl
  feedState _ := rfl
  fallback _ := rfl
  reports _ _ := id

theorem cutDrive (s : State) (hk : k ≠ l) : KeepsLine l s (s.cutDrive k) := .modLine s hk _

theorem modJob (s : State) (hk : k ≠ l) {g : Job → Job} (hg : ∀ j, (g j).line = j.line) :
    KeepsLine l s (s.modJob k g) where
  rest := rfl
  line := rfl
  job := by rw [State.modJob_job? s k l g hg, if_neg hk.symm]
  revert := rfl
  feedState _ := rfl
  fallback _ := rfl
  reports _ _ := id

theorem modRevert (s : State) (hk : k ≠ l) {g : Revert → Revert} (hg : ∀ r, (g r).line = r.line) :
    KeepsLine l s (s.modRevert k g) where
  rest := rfl
  line := rfl
  job := rfl
  revert := by rw [State.modRevert_revert? s k l g hg, if_neg hk.symm]
  feedState _ := rfl
  fallback _ := rfl
  reports _ _ := id

theorem dropJob (s : State) (hk : k ≠ l) : KeepsLine l s (s.dropJob k) where
  rest := rfl
  line := rfl
  job := by
    simp only [State.job?, State.dropJob, List.find?_filter]
    congr 1
    funext j
    by_cases h : j.line = l <;> simp [h, hk.symm]
  revert := rfl
  feedState _ := rfl
  fallback _ := rfl
  reports _ _ := id

theorem dropRevert (s : State) (hk : k ≠ l) : KeepsLine l s (s.dropRevert k) where
  rest := rfl
  line := rfl
  job := rfl
  revert := by
    simp only [State.revert?, State.dropRevert, List.find?_filter]
    congr 1
    funext r
    by_cases h : r.line = l <;> simp [h, hk.symm]
  feedState _ := rfl
  fallback _ := rfl
  reports _ _ := id

/-- A post adds to the queues alone. -/
theorem postOwner (l : Fin 32) (s : State) (k : Fin 32) (e : Event) : KeepsLine l s (s.postOwner k e) where
  rest := by rw [s.postOwner_eq k e]
  line := State.line_congr (s.postOwner_lines k e) l
  job := by rw [State.job?, State.postOwner_jobs]; rfl
  revert := by rw [State.revert?, State.postOwner_reverts]; rfl
  feedState f := by rw [State.feed_congr (s.postOwner_feeds k e)]
  fallback f := by rw [State.feed_congr (s.postOwner_feeds k e)]
  reports q e' hr := by
    rw [State.postOwner_port]
    split
    · exact hr.received e
    · exact hr

/-- A burst start is noted in a feed's last-burst record alone (R125). -/
theorem noteBurst (l : Fin 32) (s : State) (f : Feed) (k : Fin 32) (y : Fin 8) : KeepsLine l s (s.noteBurst f k y) := by
  have hfeed (g : Feed) : ((s.noteBurst f k y).feed g).state = (s.feed g).state ∧
      ((s.noteBurst f k y).feed g).fallback = (s.feed g).fallback := by
    by_cases h : g = f
    · subst h
      rw [State.noteBurst, State.modFeed_feed_self]
      split <;> exact ⟨rfl, rfl⟩
    · rw [State.noteBurst, State.modFeed_feed_other _ _ h]
      exact ⟨rfl, rfl⟩
  exact ⟨rfl, rfl, rfl, rfl, fun g => (hfeed g).1, fun g => (hfeed g).2, fun _ _ => id⟩

/-! ### Bursts and endings -/

theorem burstStep (s : State) (hk : k ≠ l) : KeepsLine l s (s.burstStep k) := by
  unfold State.burstStep
  split
  · exact .refl l s
  · next j _ =>
    split
    · split
      · unfold State.startBurst
        split
        · exact (modLine s hk _).trans (.noteBurst l _ _ k j.party)
        · exact .refl l s
      · exact .refl l s
    · exact .cutDrive s hk

theorem reportEnding (l : Fin 32) (s : State) (k : Fin 32) (e : Ending) : KeepsLine l s (s.reportEnding k e) := by
  unfold State.reportEnding
  split
  · exact .refl l s
  · split
    · exact .refl l s
    · exact .postOwner l s k _

theorem releaseIf (s : State) (hk : k ≠ l) (b : Bool) : KeepsLine l s (s.releaseIf b k) := by
  cases b
  · exact .refl l s
  · exact modLine s hk fun x => { x with owner := none, parked := false }

theorem endCall (s : State) (hk : k ≠ l) (e : Ending) (b : Bool) : KeepsLine l s (s.endCall k e b) :=
  ((((cutDrive s hk).trans (.reportEnding l _ k e)).trans (.releaseIf _ hk b)).trans (.dropJob _ hk)).trans
    (.dropRevert _ hk)

/-! ### The steps of an expiry (R59 to R61, R98) -/

theorem postProgress (l : Fin 32) (s : State) (k : Fin 32) (j : Job) : KeepsLine l s (s.postProgress k j) := by
  unfold State.postProgress
  split
  · exact .postOwner l s k _
  · exact .refl l s

theorem takeTurn (s : State) (hk : k ≠ l) : KeepsLine l s (s.takeTurn k) := by
  unfold State.takeTurn
  split
  · exact .refl l s
  · next r _ =>
    exact ((cutDrive s hk).trans (.modJob _ hk fun j => by simp [State.turnJob])).trans (.modRevert _ hk fun _ => rfl)

theorem returnHome (s : State) (hk : k ≠ l) : KeepsLine l s (s.returnHome k) :=
  (cutDrive s hk).trans (.modJob _ hk fun _ => rfl)

theorem frameEnd (s : State) (hk : k ≠ l) : KeepsLine l s (s.frameEnd k).1 := by
  have hcount : KeepsLine l s (s.modJob k fun j => { j with framesRung := j.framesRung + 1 }) :=
    .modJob s hk fun _ => rfl
  unfold State.frameEnd
  dsimp only
  split
  · exact hcount
  · next j _ =>
    have htold := hcount.trans (.postProgress l _ k j)
    split
    · exact hcount.trans (.endCall _ hk _ _)
    · split
      · exact htold.trans (.takeTurn _ hk)
      · split
        · exact htold.trans (.returnHome _ hk)
        · exact htold.trans (.burstStep _ hk)

theorem tickJob (a : State × Bool) (hk : k ≠ l) : KeepsLine l a.1 (State.tickJob a k).1 := by
  unfold State.tickJob
  dsimp only
  split
  · exact .refl l a.1
  · split
    · exact .refl l a.1
    · split
      · exact (modJob a.1 hk (g := fun j => { j with state := .ringing }) fun _ => rfl).trans (.burstStep _ hk)
      · split
        · exact .frameEnd a.1 hk
        · split
          · exact .burstStep a.1 hk
          · exact .refl l a.1

theorem advanceWait (s : State) (hk : k ≠ l) (j : Job) : KeepsLine l s (s.advanceWait k j) := by
  have hcount : KeepsLine l s (s.modJob k fun j => { j with waitTimer := j.waitTimer + 1 }) := .modJob s hk fun _ => rfl
  unfold State.advanceWait
  dsimp only
  split
  · exact hcount.trans (.endCall _ hk _ _)
  · exact hcount

theorem advanceHangup (s : State) (hk : k ≠ l) (r : Revert) : KeepsLine l s (s.advanceHangup k r) := by
  have hcount : KeepsLine l s (s.modRevert k fun r => { r with hangupTimer := r.hangupTimer + 1 }) :=
    .modRevert s hk fun _ => rfl
  unfold State.advanceHangup
  dsimp only
  split
  · exact hcount.trans (.endCall _ hk _ _)
  · exact hcount

theorem tickTimer (waiters : List (Fin 32)) (s : State) (hk : k ≠ l) : KeepsLine l s (s.tickTimer waiters k) := by
  unfold State.tickTimer
  split
  · exact .refl l s
  · next j _ =>
    split
    · split
      · split
        · exact .advanceHangup s hk _
        · exact .refl l s
      · exact .refl l s
    · split
      · exact .advanceWait s hk j
      · exact .refl l s
    · split
      · exact .advanceWait s hk j
      · exact .refl l s
    · exact .refl l s

/-- Step 1 of an expiry for other lines. -/
theorem tickJobs (ls : List (Fin 32)) (h : l ∉ ls) (a : State × Bool) : KeepsLine l a.1 (ls.foldl State.tickJob a).1 := by
  induction ls generalizing a with
  | nil => exact .refl l a.1
  | cons k ls ih =>
    obtain ⟨hk, hls⟩ := not_or.1 (mt List.mem_cons.2 h)
    exact (tickJob a (Ne.symm hk)).trans (ih hls _)

/-- Step 2 of an expiry for other lines. -/
theorem otherTimers {waiters : List (Fin 32)} (ls : List (Fin 32)) (h : l ∉ ls) :
    KeepsLine l s (ls.foldl (State.tickTimer waiters) s) := by
  induction ls generalizing s with
  | nil => exact .refl l s
  | cons k ls ih =>
    obtain ⟨hk, hls⟩ := not_or.1 (mt List.mem_cons.2 h)
    exact (tickTimer waiters s (Ne.symm hk)).trans (ih hls)

/-- Step 2 of an expiry, where it does nothing for this line. -/
theorem tickTimers {waiters : List (Fin 32)} (ls : List (Fin 32))
    (hidle : ∀ u, KeepsLine l s u → u.tickTimer waiters l = u) : KeepsLine l s (ls.foldl (State.tickTimer waiters) s) := by
  induction ls generalizing s with
  | nil => exact .refl l s
  | cons k ls ih =>
    have hstep : KeepsLine l s (s.tickTimer waiters k) := by
      by_cases hk : k = l
      · subst hk
        rw [hidle s (.refl k s)]
        exact .refl k s
      · exact .tickTimer waiters s hk
    exact hstep.trans (ih fun u hu => hidle u (hstep.trans hu))

end KeepsLine

/-! ### One line's steps -/

/-- The timers of a line without a job do not run. -/
theorem State.tickTimer_of_no_job {waiters : List (Fin 32)} (h : s.job? l = none) : s.tickTimer waiters l = s := by
  simp only [State.tickTimer, h]

/-- Neither do those of a line whose job was not waiting before the expiry and is not RESERVED. -/
theorem State.tickTimer_of_not_waiter {waiters : List (Fin 32)} {j : Job} (h : s.job? l = some j)
    (hv : j.state ≠ .reserved) (hl : l ∉ waiters) : s.tickTimer waiters l = s := by
  simp only [State.tickTimer, h]
  split
  · next hr => exact absurd hr hv
  · simp [hl]
  · simp [hl]
  · rfl

theorem State.mem_waiters_iff (hn : (s.jobs.map (·.line)).Nodup) {j : Job} (hj : s.job? l = some j) :
    l ∈ s.waiters ↔ j.state = .waiting ∨ j.state = .suspended := by
  have hcounting : j.counting = true ↔ j.state = .waiting ∨ j.state = .suspended := by simp [Job.counting]
  rw [← hcounting]
  simp only [State.waiters, List.mem_map, List.mem_filter]
  constructor
  · rintro ⟨i, ⟨hi, hc⟩, hl⟩
    rwa [← Option.some.inj (((State.job?_eq_some_iff hn).2 ⟨hi, hl⟩).symm.trans hj)]
  · exact fun hc => ⟨j, ⟨State.job?_mem hj, hc⟩, State.job?_line hj⟩

/-- The position after an expiry is the boundary of a phase exactly where the claims say so. -/
theorem State.advance_pos_iff (s : State) (ph : Fin 12) :
    (s.advance.pos.val = boundary ph) ↔ (s.pos.val + 1) % 60 = 5 * ph.val := by
  rw [State.advance, boundary, Fin.val_add]
  rfl

/-- The position and the stamp that one line's steps read. -/
theorem KeepsLine.pos (h : KeepsLine l s t) : t.pos = s.pos := by rw [h.rest]

theorem KeepsLine.stamp (h : KeepsLine l s t) : t.stamp = s.stamp := by rw [h.rest]

theorem KeepsLine.seen (h : KeepsLine l s t) : t.seen l = s.seen l := State.seen_congr l (by rw [h.rest]) (by rw [h.line])

theorem KeepsLine.station (h : KeepsLine l s t) (i : Fin 192) : t.station i = s.station i :=
  State.station_congr (by rw [h.rest]) i

/-- Step 1 of an expiry for a line with a job: other lines, the line itself, other lines (R60). -/
theorem State.tickJobs_split (hn : (s.jobs.map (·.line)).Nodup) {j : Job} (hj : s.job? l = some j) :
    ∃ a : State × Bool, KeepsLine l s a.1 ∧ KeepsLine l (State.tickJob a l).1 s.tickJobs.1 := by
  have hmem : l ∈ s.jobs.map (·.line) := List.mem_map.2 ⟨j, State.job?_mem hj, State.job?_line hj⟩
  obtain ⟨before, after, hsplit⟩ := List.append_of_mem hmem
  rw [hsplit, List.nodup_middle, List.nodup_cons, List.mem_append, not_or] at hn
  obtain ⟨⟨hbefore, hafter⟩, -⟩ := hn
  refine ⟨before.foldl State.tickJob (s, false), .tickJobs before hbefore (s, false), ?_⟩
  rw [State.tickJobs, hsplit, List.foldl_append, List.foldl_cons]
  exact .tickJobs after hafter _

end Sys2Proof.Machine
end

section
/-! PROOFS. What an expiry does for one line: its last frame, a turn, the return from FB, the next frame, RING_PROGRESS (R59,
R103, R123), and the ends of the wait and hang-up timers (R61, R98). -/

namespace Sys2Proof.Machine

variable {s t u : State} {l : Fin 32} {j : Job}

/-! ### A frame end (R59) -/

/-- The job with one more frame rung. -/
def countFrame (j : Job) : Job := { j with framesRung := j.framesRung + 1 }

/-- The part once a frame of the line's job is counted and RING_PROGRESS is posted where it is due (R59 steps 1 and 3). -/
def State.frameRung (s : State) (l : Fin 32) (j : Job) : State := (s.modJob l countFrame).postProgress l (countFrame j)

theorem State.countFrame_job? (hj : s.job? l = some j) : (s.modJob l countFrame).job? l = some (countFrame j) :=
  State.modJob_job?_self hj fun _ => rfl

/-- The steps of a frame end (R59, R103, R123). -/
theorem State.frameEnd_eq (hj : s.job? l = some j) :
    s.frameEnd l =
      if j.framesRung + 1 = j.frameLimit then
        ((s.modJob l countFrame).endCall l .noAnswer ((s.modJob l countFrame).endingReleases l .noAnswer), true)
      else if (s.frameRung l j).turnDue l then ((s.frameRung l j).takeTurn l, true)
      else if (s.frameRung l j).returnDue (countFrame j) then ((s.frameRung l j).returnHome l, true)
      else ((s.frameRung l j).burstStep l, false) := by
  have hcounted : (s.modJob l fun j => { j with framesRung := j.framesRung + 1 }).job? l = some (countFrame j) :=
    State.countFrame_job? hj
  unfold State.frameEnd
  dsimp only
  rw [hcounted]
  rfl

/-- The last frame ends the job (R59 step 2). -/
theorem State.frameEnd_of_limit (hj : s.job? l = some j) (h : j.framesRung + 1 = j.frameLimit) :
    (s.frameEnd l).1 =
      (s.modJob l countFrame).endCall l .noAnswer ((s.modJob l countFrame).endingReleases l .noAnswer) := by
  rw [State.frameEnd_eq hj, if_pos h]

/-- Before the limit a frame end makes a turn, or else the return from FB, or else it goes on (R59, R103, R123). -/
theorem State.frameEnd_before_limit (hj : s.job? l = some j) (h : j.framesRung + 1 ≠ j.frameLimit) :
    (s.frameEnd l).1 =
      if (s.frameRung l j).turnDue l then (s.frameRung l j).takeTurn l
      else if (s.frameRung l j).returnDue (countFrame j) then (s.frameRung l j).returnHome l
      else (s.frameRung l j).burstStep l := by
  rw [State.frameEnd_eq hj, if_neg h, apply_ite Prod.fst, apply_ite Prod.fst]

/-- Counting the frame and telling of it touches the pool and the ports alone. -/
theorem State.frameRung_eq (s : State) (l : Fin 32) (j : Job) :
    s.frameRung l j = { s.modJob l countFrame with ports := (s.frameRung l j).ports } := by
  unfold State.frameRung State.postProgress
  split
  · exact State.postOwner_eq _ l _
  · rfl

theorem State.frameRung_job? (hj : s.job? l = some j) : (s.frameRung l j).job? l = some (countFrame j) := by
  rw [State.frameRung_eq]
  exact State.countFrame_job? hj

/-- RING_PROGRESS, where it is due (R59 step 3). -/
theorem State.frameRung_told {q : Port}
    (hdue : j.progress = true ∧ j.framesRung + 1 = (j.frameLimit + 1) / 2) (ho : (s.line l).owner = some q) :
    OneReceives s (s.frameRung l j) q
      { kind := .ringProgress, line := some l, party := some j.party
        detail := BitVec.ofNat 8 0 ++ BitVec.ofNat 8 (j.framesRung + 1), serial := none, stamp := s.stamp } := by
  have hpost : s.frameRung l j = (s.modJob l countFrame).postOwner l
      ((s.modJob l countFrame).partyEvent .ringProgress l j.party (detail 0 (byteOf (j.framesRung + 1)))) := if_pos hdue
  rw [hpost]
  exact State.postOwner_port_owner (s := s.modJob l countFrame) ho _

theorem State.frameRung_untold
    (h : ¬(j.progress = true ∧ j.framesRung + 1 = (j.frameLimit + 1) / 2) ∨ (s.line l).owner = none) :
    (s.frameRung l j).ports = s.ports := by
  by_cases hdue : j.progress = true ∧ j.framesRung + 1 = (j.frameLimit + 1) / 2
  · have ho : ((s.modJob l countFrame).line l).owner = none := h.resolve_left (not_not.2 hdue)
    have hpost : s.frameRung l j = (s.modJob l countFrame).postOwner l _ := if_pos hdue
    rw [hpost, State.postOwner_unbound ho]
    rfl
  · have hquiet : s.frameRung l j = s.modJob l countFrame := if_neg hdue
    rw [hquiet]
    rfl

/-- A burst start or end touches lines and feeds alone (R57). -/
theorem State.burstStep_eq (s : State) (l : Fin 32) :
    s.burstStep l = { s with lines := (s.burstStep l).lines, feeds := (s.burstStep l).feeds } := by
  unfold State.burstStep
  split
  · rfl
  · split
    · split
      · unfold State.startBurst
        split <;> rfl
      · rfl
    · rfl

theorem State.takeTurn_ports (s : State) (l : Fin 32) : (s.takeTurn l).ports = s.ports := by
  unfold State.takeTurn
  split <;> rfl

/-- Before the limit a frame end posts RING_PROGRESS or nothing. -/
theorem State.frameEnd_ports (hj : s.job? l = some j) (h : j.framesRung + 1 ≠ j.frameLimit) :
    (s.frameEnd l).1.ports = (s.frameRung l j).ports := by
  rw [State.frameEnd_before_limit hj h]
  split
  · exact State.takeTurn_ports _ l
  · split
    · rfl
    · rw [State.burstStep_eq]

/-! ### The turn (R103) -/

theorem State.turnDue_iff : s.turnDue l = true ↔ ∃ r, s.revert? l = some r ∧ r.ringCaller = true ∧ r.caller ≠ r.called := by
  unfold State.turnDue
  cases s.revert? l <;> simp

theorem turnParty_flip (r : Revert) (v : Turn) :
    turnParty r (flipTurn v) = if v = .called then r.caller else r.called := by cases v <;> rfl

theorem flipTurn_eq (v : Turn) : flipTurn v = if v = .called then .caller else .called := by cases v <;> rfl

theorem flipRevert_eq {v : RevertState} (h : v ≠ .awaitHangup) :
    flipRevert v = if v = .ringingCalled then .ringingCaller else .ringingCalled := by
  cases v
  case awaitHangup => exact absurd rfl h
  all_goals rfl

/-- What a turn leaves: the other party's job, the drive cut, and the revert's state flipped. -/
theorem State.takeTurn_spec {r : Revert} {v : Turn} {i : Fin 192} (hj : s.job? l = some j) (hr : s.revert? l = some r)
    (hv : j.turn = some v) (hi : stationIndex (s.line l).desc (turnParty r (flipTurn v)) = some i) :
    (s.takeTurn l).job? l =
        some (s.stationedJob l (turnParty r (flipTurn v)) i { j with turn := some (flipTurn v) }) ∧
      (s.takeTurn l).line l = { s.line l with drive := none } ∧
      (s.takeTurn l).revert? l = some { r with state := flipRevert r.state } := by
  have hturn : s.takeTurn l =
      ((s.cutDrive l).modJob l (s.turnJob r)).modRevert l fun r => { r with state := flipRevert r.state } := by
    simp only [State.takeTurn, hr]
  have hjob : s.turnJob r j = s.stationedJob l (turnParty r (flipTurn v)) i { j with turn := some (flipTurn v) } := by
    simp only [State.turnJob, hv, Option.getD_some]
    exact State.takeStation_eq (show j.line = l from State.job?_line hj) hi
  rw [hturn]
  refine ⟨?_, s.modLine_line_self l fun x => { x with drive := none }, ?_⟩
  · rw [← hjob]
    exact State.modJob_job?_self (s := s.cutDrive l) hj fun j => by simp [State.turnJob]
  · refine (State.modRevert_revert? _ l l (fun r => { r with state := flipRevert r.state }) fun _ => rfl).trans ?_
    rw [if_pos rfl]
    exact congrArg (Option.map _) hr

/-! ### The return from FB (R123) -/

theorem State.returnDue_iff (hv : j.state = .ringing) :
    s.returnDue j = true ↔ ∃ h, j.home = some h ∧ j.current = some .fb ∧ (s.feed h).state = .good := by
  unfold State.returnDue
  cases j.home <;> simp [hv]

theorem State.returnHome_spec (hj : s.job? l = some j) :
    (s.returnHome l).job? l = some { j with state := .waiting, current := j.home, phase := none, waitTimer := 0 } ∧
      (s.returnHome l).line l = { s.line l with drive := none } :=
  ⟨State.modJob_job?_self (s := s.cutDrive l) hj fun _ => rfl, s.modLine_line_self l fun x => { x with drive := none }⟩

/-- A frame end leaves no RESERVED job. -/
theorem State.frameEnd_not_reserved (hj : s.job? l = some j) (hv : j.state = .ringing) {j' : Job}
    (hj' : (s.frameEnd l).1.job? l = some j') : j'.state ≠ .reserved := by
  by_cases hlimit : j.framesRung + 1 = j.frameLimit
  · rw [State.frameEnd_of_limit hj hlimit] at hj'
    have hidle := (State.endCall_idle (s.modJob l countFrame) l .noAnswer
      ((s.modJob l countFrame).endingReleases l .noAnswer)).1
    rw [State.hasJob, hj'] at hidle
    cases hidle
  · rw [State.frameEnd_before_limit hj hlimit] at hj'
    have hrung := State.frameRung_job? hj
    split at hj'
    · next hturn =>
      obtain ⟨r, hr, -⟩ := State.turnDue_iff.1 hturn
      simp only [State.takeTurn, hr] at hj'
      have hk : (((s.frameRung l j).cutDrive l).modJob l ((s.frameRung l j).turnJob r)).job? l = _ :=
        State.modJob_job?_self (s := (s.frameRung l j).cutDrive l) hrung fun j => by simp [State.turnJob]
      obtain rfl := Option.some.inj (hj'.symm.trans hk)
      rcases (s.frameRung l j).takeStation_cases _ { countFrame j with turn := some _ } with
        ⟨-, e⟩ | ⟨i, -, v, f, ⟨rfl, -⟩ | ⟨rfl, -⟩, e⟩
      · rw [State.turnJob, e]
        simp [countFrame, hv]
      · rw [State.turnJob, e]
        simp
      · rw [State.turnJob, e]
        simp
    · split at hj'
      · obtain rfl := Option.some.inj (hj'.symm.trans (State.returnHome_spec hrung).1)
        simp
      · rw [State.burstStep_eq] at hj'
        obtain rfl := Option.some.inj (hj'.symm.trans hrung)
        simp [countFrame, hv]

/-! ### One line's part of an expiry (R60) -/

/-- At its frame end the line's part of step 1 is that frame end. -/
theorem State.tickJob_frameEnd {a : State × Bool} {ph : Fin 12} (hj : a.1.job? l = some j) (hv : j.state = .ringing)
    (hph : j.phase = some ph) (hpos : a.1.pos.val = boundary ph) : (State.tickJob a l).1 = (a.1.frameEnd l).1 := by
  simp [State.tickJob, hj, hph, hv, hpos]

/-- A job without a reservation has no part in step 1. -/
theorem State.tickJob_unplaced {a : State × Bool} (hj : a.1.job? l = some j) (hp : j.state ≠ .placed)
    (hr : j.state ≠ .ringing) : State.tickJob a l = a := by
  unfold State.tickJob
  dsimp only
  rw [hj]
  cases hph : j.phase with
  | none => simp only [hph]
  | some ph => simp only [hph, hp, hr, false_and, if_false]

/-- An expiry that ends a frame of the line's job: other lines, the frame end, other lines, a pass or none. -/
theorem State.expiry_of_frameEnd {ph : Fin 12} (hn : (s.jobs.map (·.line)).Nodup) (hj : s.job? l = some j)
    (hv : j.state = .ringing) (hph : j.phase = some ph) (hpos : (s.pos.val + 1) % 60 = 5 * ph.val) :
    ∃ a x b, KeepsLine l s.advance a ∧ KeepsLine l (a.frameEnd l).1 x ∧ s.expiry = x.passIf b := by
  obtain ⟨a, hbefore, hafter⟩ := State.tickJobs_split (s := s.advance) hn hj
  have hja : a.1.job? l = some j := hbefore.job.trans hj
  have hposa : a.1.pos.val = boundary ph := by rw [hbefore.pos]; exact (s.advance_pos_iff ph).2 hpos
  rw [State.tickJob_frameEnd hja hv hph hposa] at hafter
  have hnot : l ∉ s.waiters := by rw [State.mem_waiters_iff hn hj, hv]; simp
  refine ⟨a.1, _, s.advance.tickJobs.2, hbefore, hafter.trans (.tickTimers _ fun u hu => ?_), rfl⟩
  have hju := hu.job.trans hafter.job
  cases hk : (a.1.frameEnd l).1.job? l with
  | none => exact State.tickTimer_of_no_job (hju.trans hk)
  | some k => exact State.tickTimer_of_not_waiter (hju.trans hk) (State.frameEnd_not_reserved hja hv hk) hnot

/-- An expiry for a line whose job holds no reservation: other lines, the line's timer, other lines, a pass or none; said for a
timer that ends the job. -/
theorem State.expiry_of_timer (hn : (s.jobs.map (·.line)).Nodup) (hj : s.job? l = some j) (hp : j.state ≠ .placed)
    (hr : j.state ≠ .ringing) :
    ∃ a x b, KeepsLine l s.advance a ∧
      ((a.tickTimer s.waiters l).job? l = none → KeepsLine l (a.tickTimer s.waiters l) x) ∧ s.expiry = x.passIf b := by
  obtain ⟨a, hbefore, hafter⟩ := State.tickJobs_split (s := s.advance) hn hj
  rw [State.tickJob_unplaced (hbefore.job.trans hj) hp hr] at hafter
  have hjobs := hbefore.trans hafter
  have hmem : l ∈ s.advance.tickJobs.1.jobs.map (·.line) :=
    List.mem_map.2 ⟨j, State.job?_mem (hjobs.job.trans hj), State.job?_line hj⟩
  obtain ⟨before, after, hsplit, hfirst⟩ := List.eq_append_cons_of_mem hmem
  have htimers : KeepsLine l s.advance.tickJobs.1 (before.foldl (State.tickTimer s.waiters) s.advance.tickJobs.1) :=
    .otherTimers before hfirst
  refine ⟨_, s.advance.tickJobs.1.tickTimers s.waiters, s.advance.tickJobs.2, hjobs.trans htimers, fun hnone => ?_, rfl⟩
  rw [State.tickTimers, hsplit, List.foldl_append, List.foldl_cons]
  exact .tickTimers after fun u hu => State.tickTimer_of_no_job (hu.job.trans hnone)

end Sys2Proof.Machine
end

section
/-! PROOFS. The endings that an expiry reaches, and its frame ends before the limit (R59, R61, R70, R98, R103, R110, R123). -/

namespace Sys2Proof.Machine

variable {s t u : State} {l : Fin 32} {j : Job}

/-! ### Endings (R70, R110) -/

theorem exec_cadenceTick (h : s.phase = .run) : exec .cadenceTick s = .next s.expiry :=
  congrArg Host.Outcome.next (if_pos h)

/-- What an expiry leaves of a line whose call it ended at the state `w`. -/
theorem KeepsLine.ended {w x : State} {e : Ending} {released : Bool} {ev : Event} (b : Bool)
    (hafter : KeepsLine l (w.endCall l e released) x) (hline : w.line l = s.line l) (hj : w.job? l = some j)
    (hev : w.endingEvent j e = some ev) :
    (x.passIf b).hasJob l = false ∧ (x.passIf b).hasRevert l = false ∧
      (x.passIf b).line l =
        (if released then { s.line l with drive := none, owner := none, parked := false }
         else { s.line l with drive := none }) ∧
      ∀ q, (s.line l).owner = some q → Reported ((x.passIf b).port q) ev := by
  obtain ⟨hjob, hrevert⟩ := w.endCall_idle l e released
  refine ⟨?_, ?_, ?_, fun q ho => ?_⟩
  · rw [State.passIf_hasJob, State.hasJob, hafter.job]
    exact hjob
  · rw [State.hasRevert, State.revert?, State.passIf_reverts]
    exact (congrArg Option.isSome hafter.revert).trans hrevert
  · rw [State.line_congr (State.passIf_lines _ _), hafter.line, State.endCall_line, if_pos rfl, hline]
  · rw [State.port_congr (State.passIf_ports _ _)]
    refine hafter.reports q ev ?_
    rw [State.endCall_reports released hj hev (hline ▸ ho) q, if_pos rfl]
    exact reported_received _ ev

/-- The endings that release the binding on a line met ON_HOOK, and keep it otherwise (R70). -/
theorem State.releases_eq {e : Ending} (he : e = .noAnswer ∨ e = .waitExpired) (hs : u.seen l = s.seen l) (x : Line) :
    (if u.endingReleases l e then { x with drive := none, owner := none, parked := false } else { x with drive := none }) =
      if supervisionMet s l = .onHook then { x with drive := none, owner := none, parked := false }
      else { x with drive := none } := by
  have hseen : u.endingReleases l e = (supervisionMet s l == .onHook) := by
    rw [← State.seen_eq, ← hs]
    rcases he with rfl | rfl <;> rfl
  simp only [hseen, beq_iff_eq]

/-- The event of an ending that carries its outcome (R70, R109). -/
theorem State.endingEvent_eq {e : Ending} {n : BitVec 16} (he : e = .noAnswer ∨ e = .waitExpired ∨ e = .noHangup)
    (hl : j.line = l) (hn : u.stamp = n) :
    u.endingEvent j e = some
      { kind := if j.turn.isSome then .revertEnded else .ringEnded, line := some l, party := some j.party
        detail := detail 0 (endingCode e), serial := none, stamp := n } := by
  subst hl hn
  rcases he with rfl | rfl | rfl <;> rfl

theorem exec_noAnswer {ph : Fin 12} (hp : s.phase = .run) (hj : s.job? l = some j) (hv : j.state = .ringing)
    (hph : j.phase = some ph) (hpos : (s.pos.val + 1) % 60 = 5 * ph.val) (hlimit : j.framesRung + 1 = j.frameLimit) :
    exec (.noAnswer l) s = .next s.expiry := by
  have hpos' : (s.pos + 1).val = boundary ph := (s.advance_pos_iff ph).2 hpos
  exact congrArg Host.Outcome.next (if_pos ⟨hp, by simp [State.noAnswerDue, hj, hph, hv, hpos', hlimit]⟩)

/-- Settles O30: the line's part of the expiry is its frame end, which ends the job NO_ANSWER. -/
theorem lastFrameEndsNoAnswer : Obligations.LastFrameEndsNoAnswer := by
  intro s l j ph hphase hpool hj hv hph hpos hlimit
  obtain ⟨a, x, b, hbefore, hafter, hexpiry⟩ := State.expiry_of_frameEnd hpool.2 hj hv hph hpos
  have hja : a.job? l = some j := hbefore.job.trans hj
  rw [State.frameEnd_of_limit hja hlimit] at hafter
  have hevent := State.endingEvent_eq (u := a.modJob l countFrame) (j := countFrame j) (.inl rfl)
    (State.job?_line (j := j) hj) hbefore.stamp
  obtain ⟨hjob, hrevert, hline, hreport⟩ :=
    hafter.ended (s := s) b hbefore.line (State.countFrame_job? hja) hevent
  refine ⟨s.expiry, exec_noAnswer hphase hj hv hph hpos hlimit, exec_cadenceTick hphase, ?_⟩
  rw [hexpiry]
  exact ⟨hjob, hrevert, hline.trans (State.releases_eq (.inl rfl) hbefore.seen _), hreport⟩

/-! ### The ends of the timers (R61, R98) -/

theorem exec_waitExpired (hp : s.phase = .run) (hj : s.job? l = some j)
    (hv : j.state = .waiting ∨ j.state = .suspended) (hw : j.waitTimer = 299) :
    exec (.waitExpired l) s = .next s.expiry := by
  have hcounting : j.counting = true := by simpa [Job.counting] using hv
  exact congrArg Host.Outcome.next (if_pos ⟨hp, by simp [State.waitExpiredDue, hj, hcounting, hw, Config.timerLimit]⟩)

theorem exec_noHangup {r : Revert} (hp : s.phase = .run) (hj : s.job? l = some j) (hr : s.revert? l = some r)
    (hv : j.state = .reserved) (ha : r.state = .awaitHangup) (hn : r.hangupTimer = 299) :
    exec (.noHangup l) s = .next s.expiry :=
  congrArg Host.Outcome.next (if_pos ⟨hp, by simp [State.noHangupDue, hj, hr, hv, ha, hn, Config.timerLimit]⟩)

/-- The job, and the revert, with one more tick waited. -/
def countWait (j : Job) : Job := { j with waitTimer := j.waitTimer + 1 }

def countHangup (r : Revert) : Revert := { r with hangupTimer := r.hangupTimer + 1 }

/-- The three-hundredth tick of a wait timer ends the job (R61). -/
theorem State.tickTimer_waitExpired {waiters : List (Fin 32)} (hj : s.job? l = some j)
    (hv : j.state = .waiting ∨ j.state = .suspended) (hw : j.waitTimer = 299) (hl : l ∈ waiters) :
    s.tickTimer waiters l =
      (s.modJob l countWait).endCall l .waitExpired ((s.modJob l countWait).endingReleases l .waitExpired) := by
  have hlimit : j.waitTimer + 1 = Config.timerLimit := by rw [hw]; rfl
  have hend : s.advanceWait l j =
      (s.modJob l countWait).endCall l .waitExpired ((s.modJob l countWait).endingReleases l .waitExpired) :=
    if_pos hlimit
  rcases hv with hv | hv <;> simp [State.tickTimer, hj, hv, hl, hend]

/-- The three-hundredth tick of a hang-up timer ends the revert (R98). -/
theorem State.tickTimer_noHangup {waiters : List (Fin 32)} {r : Revert} (hj : s.job? l = some j)
    (hr : s.revert? l = some r) (hv : j.state = .reserved) (ha : r.state = .awaitHangup) (hn : r.hangupTimer = 299) :
    s.tickTimer waiters l = (s.modRevert l countHangup).endCall l .noHangup false := by
  have hlimit : r.hangupTimer + 1 = Config.timerLimit := by rw [hn]; rfl
  have hend : s.advanceHangup l r = (s.modRevert l countHangup).endCall l .noHangup false := if_pos hlimit
  simp [State.tickTimer, hj, hv, hr, ha, hend]

/-- After an ending the line has no job. -/
theorem State.endCall_job? (s : State) (l : Fin 32) (e : Ending) (b : Bool) : (s.endCall l e b).job? l = none := by
  simpa [State.hasJob] using (s.endCall_idle l e b).1

/-- Settles O31: the line's part of the expiry is its timer, which reaches 300. -/
theorem timersEndAtThreeHundred : Obligations.TimersEndAtThreeHundred := by
  intro s l j hphase hpool hj
  refine ⟨fun hv hw => ?_, fun r hr hv ht ha hn => ?_⟩
  · obtain ⟨a, x, b, hbefore, hafter, hexpiry⟩ :=
      State.expiry_of_timer hpool.2 hj (by rcases hv with h | h <;> simp [h]) (by rcases hv with h | h <;> simp [h])
    have hja : a.job? l = some j := hbefore.job.trans hj
    rw [State.tickTimer_waitExpired hja hv hw ((State.mem_waiters_iff hpool.2 hj).2 hv)] at hafter
    have hevent := State.endingEvent_eq (u := a.modJob l countWait) (j := countWait j) (.inr (.inl rfl))
      (State.job?_line (j := j) hj) hbefore.stamp
    obtain ⟨hjob, hrevert, hline, hreport⟩ := (hafter (State.endCall_job? _ _ _ _)).ended (s := s) b hbefore.line
      (State.modJob_job?_self hja fun _ => rfl) hevent
    refine ⟨s.expiry, exec_waitExpired hphase hj hv hw, exec_cadenceTick hphase, ?_⟩
    rw [hexpiry]
    exact ⟨hjob, hrevert, hline.trans (State.releases_eq (.inr rfl) hbefore.seen _), hreport⟩
  · obtain ⟨a, x, b, hbefore, hafter, hexpiry⟩ := State.expiry_of_timer hpool.2 hj (by simp [hv]) (by simp [hv])
    have hja : a.job? l = some j := hbefore.job.trans hj
    rw [State.tickTimer_noHangup hja (hbefore.revert.trans hr) hv ha hn] at hafter
    have hevent := State.endingEvent_eq (u := a.modRevert l countHangup) (.inr (.inr rfl)) (State.job?_line hj)
      hbefore.stamp
    rw [if_pos ht] at hevent
    obtain ⟨hjob, hrevert, hline, hreport⟩ := (hafter (State.endCall_job? _ _ _ _)).ended (s := s) b hbefore.line hja hevent
    refine ⟨s.expiry, exec_noHangup hphase hj hr hv ha hn, exec_cadenceTick hphase, ?_⟩
    rw [hexpiry]
    exact ⟨hjob, hrevert, hline, hreport⟩

/-! ### Frame ends before the limit (R59, R103, R123) -/

/-- An expiry that ends a frame of the line's job before the limit: what the line holds afterwards is what the frame end left,
but for a placement by the pass. -/
theorem State.expiry_of_frameEnd_job? {ph : Fin 12} (hn : (s.jobs.map (·.line)).Nodup) (hj : s.job? l = some j)
    (hv : j.state = .ringing) (hph : j.phase = some ph) (hpos : (s.pos.val + 1) % 60 = 5 * ph.val) :
    ∃ a, KeepsLine l s.advance a ∧ s.expiry.line l = (a.frameEnd l).1.line l ∧
      s.expiry.revert? l = (a.frameEnd l).1.revert? l ∧
      (∀ q e, Reported ((a.frameEnd l).1.port q) e → Reported (s.expiry.port q) e) ∧
      ∀ j₁, (a.frameEnd l).1.job? l = some j₁ → ∃ j', s.expiry.job? l = some j' ∧ PassedJob j₁ j' := by
  obtain ⟨a, x, b, hbefore, hafter, hexpiry⟩ := State.expiry_of_frameEnd hn hj hv hph hpos
  rw [hexpiry]
  refine ⟨a, hbefore, ?_, ?_, fun q e hr => ?_, fun j₁ hj₁ => State.passIf_job? b (hafter.job.trans hj₁)⟩
  · rw [State.line_congr (State.passIf_lines _ _), hafter.line]
  · rw [State.revert?, State.passIf_reverts]
    exact hafter.revert
  · rw [State.port_congr (State.passIf_ports _ _)]
    exact hafter.reports q e hr

/-- What a frame of the line's job leaves of the line and the revert once it is counted. -/
theorem State.frameRung_keeps (s : State) (l : Fin 32) (j : Job) :
    (s.frameRung l j).line l = s.line l ∧ (s.frameRung l j).revert? l = s.revert? l ∧
      (s.frameRung l j).feeds = s.feeds ∧ (s.frameRung l j).stations = s.stations := by
  rw [State.frameRung_eq]
  exact ⟨rfl, rfl, rfl, rfl⟩

/-- What a line's job takes from a station depends on the station, on the line's allowance and on the feeds. -/
theorem State.stationedJob_congr {y : Fin 8} {i : Fin 192} (hl : t.line l = s.line l) (hs : t.station i = s.station i)
    (hf : ∀ f, (t.feed f).state = (s.feed f).state) (hb : ∀ f, (t.feed f).fallback = (s.feed f).fallback) :
    t.stationedJob l y i j = s.stationedJob l y i j := by
  simp only [State.stationedJob, hl, hs, chosenTarget_congr hf hb]

/-- A frame end at which a turn is due (R103). -/
theorem State.frameEnd_turn {a : State} {r : Revert} {v : Turn} {i : Fin 192} (ha : KeepsLine l s a)
    (hj : s.job? l = some j) (hr : s.revert? l = some r) (hlimit : j.framesRung + 1 ≠ j.frameLimit)
    (hcaller : r.ringCaller = true) (hparties : r.caller ≠ r.called) (hv : j.turn = some v)
    (hi : stationIndex (s.line l).desc (turnParty r (flipTurn v)) = some i) :
    (a.frameEnd l).1.job? l =
        some (s.stationedJob l (turnParty r (flipTurn v)) i { countFrame j with turn := some (flipTurn v) }) ∧
      (a.frameEnd l).1.line l = { s.line l with drive := none } ∧
      (a.frameEnd l).1.revert? l = some { r with state := flipRevert r.state } := by
  have hja := ha.job.trans hj
  obtain ⟨hline, hrevert, hfeeds, hstations⟩ := a.frameRung_keeps l j
  have hr' : (a.frameRung l j).revert? l = some r := hrevert.trans (ha.revert.trans hr)
  have hline' : (a.frameRung l j).line l = s.line l := hline.trans ha.line
  obtain ⟨hjob, hcut, hflip⟩ := State.takeTurn_spec (s := a.frameRung l j) (j := countFrame j)
    (State.frameRung_job? hja) hr' hv (hline' ▸ hi)
  have hturned : (a.frameRung l j).stationedJob l (turnParty r (flipTurn v)) i
      { countFrame j with turn := some (flipTurn v) } = s.stationedJob l (turnParty r (flipTurn v)) i
      { countFrame j with turn := some (flipTurn v) } :=
    State.stationedJob_congr hline' ((State.station_congr hstations i).trans (ha.station i))
      (fun f => by rw [State.feed_congr hfeeds, ha.feedState]) fun f => by rw [State.feed_congr hfeeds, ha.fallback]
  rw [State.frameEnd_before_limit hja hlimit, if_pos (State.turnDue_iff.2 ⟨r, hr', hcaller, hparties⟩)]
  exact ⟨hjob.trans (congrArg some hturned), hcut.trans (by rw [hline']), hflip⟩

/-- A frame end at which no turn is due: the return from FB where it is, and else the next frame (R59, R123). -/
theorem State.frameEnd_noTurn {a : State} (ha : KeepsLine l s a) (hj : s.job? l = some j) (hv : j.state = .ringing)
    (hlimit : j.framesRung + 1 ≠ j.frameLimit)
    (hturn : ∀ r, s.revert? l = some r → r.ringCaller = false ∨ r.caller = r.called) :
    (∀ h, j.current = some .fb → j.home = some h → (s.feed h).state = .good →
      (a.frameEnd l).1.job? l =
          some { countFrame j with state := .waiting, current := j.home, phase := none, waitTimer := 0 } ∧
        (a.frameEnd l).1.line l = { s.line l with drive := none }) ∧
    (j.current ≠ some .fb ∨ (∀ h, j.home = some h → (s.feed h).state ≠ .good) →
      (a.frameEnd l).1.job? l = some (countFrame j)) := by
  have hja := ha.job.trans hj
  obtain ⟨hline, hrevert, hfeeds, -⟩ := a.frameRung_keeps l j
  have hnot : ¬(a.frameRung l j).turnDue l = true := fun h => by
    obtain ⟨r, hr, hcaller, hparties⟩ := State.turnDue_iff.1 h
    rcases hturn r (ha.revert.symm.trans (hrevert.symm.trans hr)) with h | h
    · simp [hcaller] at h
    · exact hparties h
  have hgood (f : Feed) : ((a.frameRung l j).feed f).state = (s.feed f).state := by
    rw [State.feed_congr hfeeds, ha.feedState]
  have hdue : (a.frameRung l j).returnDue (countFrame j) = true ↔
      ∃ h, j.home = some h ∧ j.current = some .fb ∧ (s.feed h).state = .good := by
    rw [State.returnDue_iff (j := countFrame j) hv]
    simp only [hgood]
    rfl
  rw [State.frameEnd_before_limit hja hlimit, if_neg hnot]
  refine ⟨fun h hc hh hg => ?_, fun hno => ?_⟩
  · obtain ⟨hjob, hcut⟩ := State.returnHome_spec (State.frameRung_job? hja)
    rw [if_pos (hdue.2 ⟨h, hh, hc, hg⟩)]
    exact ⟨hjob, hcut.trans (by rw [hline, ha.line])⟩
  · have hstay : ¬(a.frameRung l j).returnDue (countFrame j) = true := fun hd => by
      obtain ⟨h, hh, hc, hg⟩ := hdue.1 hd
      rcases hno with hno | hno
      · exact hno hc
      · exact hno h hh hg
    rw [if_neg hstay, State.burstStep_eq]
    exact State.frameRung_job? hja

/-- Settles O32: the turn, the return from FB and the next frame as the line's part of the expiry, and the one event that a
frame end before the limit posts. -/
theorem turnTakesTheOtherParty : Obligations.TurnTakesTheOtherParty := by
  refine ⟨fun s l j r i ph v hphase hpool hj hr hv hturn hstate hcaller hparties hph hpos hlimit => ?_,
    fun s l j ph hphase hpool hj hv hph hpos hlimit hturn => ?_, fun l j hlimit => ?_⟩
  · intro y hcount hi x
    have hy : turnParty r (flipTurn v) = y := turnParty_flip r v
    obtain ⟨a, hbefore, hline, hrevert, -, hjob⟩ := State.expiry_of_frameEnd_job? hpool.2 hj hv hph hpos
    obtain ⟨hturned, hcut, hflip⟩ := State.frameEnd_turn hbefore hj hr hlimit hcaller hparties hturn
      (hy ▸ stationIndex_eq_some_iff.2 ⟨hcount, hi⟩)
    rw [hy, flipTurn_eq] at hturned
    obtain ⟨j', hj', hpass⟩ := hjob _ hturned
    refine ⟨s.expiry, j', exec_cadenceTick hphase, hj', hline.trans hcut, ?_, by cases hpass <;> rfl,
      hpass.on_target (s := s) rfl rfl rfl⟩
    rw [hrevert, hflip, flipRevert_eq hstate]
  · obtain ⟨a, hbefore, hline, -, -, hjob⟩ := State.expiry_of_frameEnd_job? hpool.2 hj hv hph hpos
    obtain ⟨hreturn, hnext⟩ := State.frameEnd_noTurn hbefore hj hv hlimit hturn
    by_cases hback : ∃ h, j.current = some .fb ∧ j.home = some h ∧ (s.feed h).state = .good
    · obtain ⟨h, hc, hh, hg⟩ := hback
      obtain ⟨hsent, hcut⟩ := hreturn h hc hh hg
      obtain ⟨j', hj', hpass⟩ := hjob _ hsent
      refine ⟨s.expiry, j', exec_cadenceTick hphase, hj', fun h' _ hh' _ => ⟨hline.trans hcut, ?_,
        hpass.waiting_or_placed rfl, hpass.phase_iff (by simp) rfl⟩, fun hno => ?_⟩
      · rw [← hh']
        cases hpass <;> rfl
      · rcases hno with hno | hno
        · exact absurd hc hno
        · exact absurd hg (hno h hh)
    · have hno : j.current ≠ some .fb ∨ ∀ h, j.home = some h → (s.feed h).state ≠ .good := by
        by_contra hc
        obtain ⟨hc, hg⟩ := not_or.1 hc
        push Not at hc hg
        obtain ⟨h, hh, hg⟩ := hg
        exact hback ⟨h, hc, hh, hg⟩
      obtain ⟨j', hj', hpass⟩ := hjob _ (hnext hno)
      exact ⟨s.expiry, j', exec_cadenceTick hphase, hj', fun h hc hh hg => absurd ⟨h, hc, hh, hg⟩ hback,
        fun _ => hpass.eq_of_not_waiting (by simp [countFrame, hv])⟩
  · intro due e
    refine ⟨fun s hj => ⟨fun q hdue ho q' => ?_, fun h => ?_⟩, fun s ph q hphase hpool hj hv hph hpos hdue ho => ?_⟩
    · rw [State.port_congr (State.frameEnd_ports hj hlimit)]
      exact State.frameRung_told hdue ho q'
    · exact (State.frameEnd_ports hj hlimit).trans (State.frameRung_untold h)
    · obtain ⟨a, hbefore, -, -, hreports, -⟩ := State.expiry_of_frameEnd_job? hpool.2 hj hv hph hpos
      have hja : a.job? l = some j := hbefore.job.trans hj
      have howner : (a.line l).owner = some q := by rw [hbefore.line]; exact ho
      have hstamp : a.stamp = s.stamp + 1 := hbefore.stamp
      refine ⟨s.expiry, exec_cadenceTick hphase, hreports q _ ?_⟩
      rw [State.port_congr (State.frameEnd_ports hja hlimit), State.frameRung_told hdue howner q, if_pos rfl, hstamp]
      exact reported_received _ _

end Sys2Proof.Machine
end

section
/-! PROOFS. CLAIM and RELEASE: their checks in order, the binding that a CLAIM makes, and the line that a RELEASE parks
(R150 to R152). -/

namespace Sys2Proof.Machine

variable {s : State} {p q : Port} {tag line serial : Byte} {l : Fin 32} {st : Status}

/-! ### Requests that change one line -/

/-- A request whose reply changes the record of one line, and nothing else but what the answer does. -/
theorem exec_modLine_answered {k : Kind} {args payload : List Byte} {h : State → Reply} {c : Instr} {g : Line → Line}
    (hc : exec c s = .next (request k p tag args h s)) (hr : Ready s p) (hp : permitted k p = true)
    (hs : s.inService p = true) (hh : h s = ⟨s.modLine l g, .ok, payload⟩) :
    ∃ t, exec c s = .next t ∧ t = { s with ports := t.ports, lines := t.lines } ∧ t.line l = g (s.line l) ∧
      OtherLinesSame s t l ∧
      Answers s t p (tag :: k.code :: args) (tag :: (k.code ||| 0x80) :: 0x00 :: payload) := by
  have hexec := exec_answered hc hr hp hs
  rw [hh] at hexec
  refine ⟨_, hexec, rfl, ?_, fun k hk => ?_, answers_answer rfl p tag k.code args .ok payload⟩
  · rw [State.answer_line, State.modLine_line_self]
  · rw [State.answer_line, State.modLine_line_other _ _ hk]

/-! ### CLAIM (R150, R151) -/

theorem claimReply_badArgument (h : argLine line = none) : claimReply p line serial s = refuse s .badArgument := by
  simp only [claimReply, h]

/-- A CLAIM with an old serial, and one that meets the line on-hook. -/
theorem claimReply_stale (h : argLine line = some l) (hs : serial ≠ (s.line l).serial ∨ ¬MetOffHook s l) :
    claimReply p line serial s = refuse s .stale := by
  rw [← isOffHook_seen_iff, Bool.not_eq_true] at hs
  unfold claimReply
  rw [h]
  dsimp only
  split
  · rfl
  · next he => exact if_pos (hs.resolve_left he)

/-- Past its first three checks a CLAIM goes by the line's owner. -/
theorem claimReply_current (h : argLine line = some l) (hm : MetOffHook s l) :
    claimReply p line (s.line l).serial s =
      match (s.line l).owner with
      | some q =>
        if q = p then ⟨s, .ok, [line, (s.line l).serial, portCode q]⟩ else refuse s .heldByOther
      | none =>
        if (s.line l).parked = true ∨ (s.line l).desc.admin ≠ .enabled then refuse s .stale
        else ⟨s.modLine l fun y => { y with owner := some p }, .ok, [line, (s.line l).serial, portCode p]⟩ := by
  unfold claimReply
  rw [h]
  dsimp only
  rw [if_neg (not_not.2 rfl), if_neg (by simp [(isOffHook_seen_iff s l).2 hm])]
  cases (s.line l).owner <;> rfl

theorem claim_refuses (hr : Ready s p) (hp : p ≠ .m) (hs : s.inService p = true)
    (h : claimReply p line serial s = refuse s st) :
    Refuses (.claim p tag line serial) s p tag 0x03 [line, serial] (statusCode st) :=
  refuses_of_reply (k := .claim) rfl hr (isPlane_of_ne hp) hs h

/-- Settles O10: the reply of CLAIM in each case of its checks, sent as every reply is. -/
theorem claimChecksAndBinds : Obligations.ClaimChecksAndBinds := by
  intro s p tag line serial hp hready hserv
  refine ⟨fun h => claim_refuses hready hp hserv (claimReply_badArgument (argBelow_eq_none_iff.2 h)), fun l hl => ?_⟩
  have harg : argLine line = some l := argBelow_eq_some hl
  refine ⟨fun h => claim_refuses hready hp hserv (claimReply_stale harg (.inl h)), ?_⟩
  rintro rfl
  refine ⟨fun h => claim_refuses hready hp hserv (claimReply_stale harg (.inr h)), fun hm => ?_⟩
  have hreply := claimReply_current (p := p) harg hm
  refine ⟨fun q ho hq => ?_, fun ho hstale => ?_, fun ho => ?_, fun ho hparked hadmin => ?_⟩
  · rw [ho] at hreply
    exact claim_refuses hready hp hserv (hreply.trans (if_neg hq))
  · rw [ho] at hreply
    exact claim_refuses hready hp hserv (hreply.trans (if_pos hstale))
  · rw [ho] at hreply
    have hexec := exec_answered (k := .claim) (c := .claim p tag line (s.line l).serial) rfl hready (isPlane_of_ne hp)
      hserv
    rw [hreply.trans (if_pos rfl)] at hexec
    exact ⟨_, hexec, rfl, answers_answer rfl p tag 0x03 _ .ok _⟩
  · rw [ho] at hreply
    exact exec_modLine_answered (k := .claim) rfl hready (isPlane_of_ne hp) hserv
      (hreply.trans (if_neg (by simp [hparked, hadmin])))

/-! ### RELEASE (R152) -/

theorem releaseReply_badArgument (h : argLine line = none) : releaseReply p line s = refuse s .badArgument := by
  simp only [releaseReply, h]

theorem releaseReply_notBound (h : argLine line = some l) (ho : (s.line l).owner = none) :
    releaseReply p line s = refuse s .notBound := by
  simp only [releaseReply, h, ho]

theorem releaseReply_heldByOther (h : argLine line = some l) (ho : (s.line l).owner = some q) (hq : q ≠ p) :
    releaseReply p line s = refuse s .heldByOther := by
  simp only [releaseReply, h, ho, if_pos hq]

theorem releaseReply_lineBusy (h : argLine line = some l) (ho : (s.line l).owner = some p)
    (hb : s.hasJob l = true ∨ s.hasRevert l = true) : releaseReply p line s = refuse s .lineBusy := by
  simp only [releaseReply, h, ho, if_neg (not_not.2 rfl), if_pos hb]

/-- An accepted RELEASE parks the line where it is met off-hook. -/
theorem releaseReply_released (h : argLine line = some l) (ho : (s.line l).owner = some p) (hj : s.hasJob l = false)
    (hr : s.hasRevert l = false) :
    releaseReply p line s =
      ⟨s.modLine l fun y => { y with owner := none, parked := isOffHook (supervisionMet s l) }, .ok,
        [yesCode (isOffHook (supervisionMet s l))]⟩ := by
  simp [releaseReply, h, ho, hj, hr, State.seen_eq]

theorem isOffHook_eq (v : Supervision) : isOffHook v = (v == .offHook || v == .opening) := by cases v <;> rfl

theorem release_refuses (hr : Ready s p) (hs : s.inService p = true) (h : releaseReply p line s = refuse s st) :
    Refuses (.release p tag line) s p tag 0x04 [line] (statusCode st) :=
  refuses_of_reply (k := .release) rfl hr rfl hs h

/-- Settles O11: the reply of RELEASE in each case of its checks, sent as every reply is. -/
theorem releaseChecksAndParks : Obligations.ReleaseChecksAndParks := by
  intro s p tag line hready hserv
  refine ⟨fun h => release_refuses hready hserv (releaseReply_badArgument (argBelow_eq_none_iff.2 h)), fun l hl => ?_⟩
  have harg : argLine line = some l := argBelow_eq_some hl
  refine ⟨fun h => release_refuses hready hserv (releaseReply_notBound harg h),
    fun q ho hq => release_refuses hready hserv (releaseReply_heldByOther harg ho hq), fun ho =>
    ⟨fun hb => release_refuses hready hserv (releaseReply_lineBusy harg ho hb), fun hj hr => ?_⟩⟩
  rw [← isOffHook_eq]
  exact exec_modLine_answered (k := .release) rfl hready rfl hserv (releaseReply_released harg ho hj hr)

end Sys2Proof.Machine
end

section
/-! PROOFS. The findings of a line without work (R80 to R84, R100): an origination, the word to the owner, the release of a
line that hangs up, and the flash. -/

namespace Sys2Proof.Machine

variable {s : State} {l : Fin 32}

/-! ### Posts about an origination (R84, R155) -/

/-- Every plane in service receives a post to the planes; Port M and the other ports are as they were. -/
theorem State.postPlanes_port (s : State) (e : Event) (q : Port) :
    (s.postPlanes e).port q = if isPlane q && s.inService q then received (s.port q) e else s.port q := by
  unfold State.postPlanes
  dsimp only
  rw [State.enqueueIf_port, State.enqueueIf_port]
  cases q <;> simp [isPlane]

theorem State.postPlanes_eq (s : State) (e : Event) : s.postPlanes e = { s with ports := (s.postPlanes e).ports } := by
  unfold State.postPlanes
  dsimp only
  split <;> split <;> rfl

theorem State.abandonOrigination_eq (s : State) (l : Fin 32) :
    s.abandonOrigination l = { s with ports := (s.abandonOrigination l).ports } := s.postPlanes_eq _

/-- The part with the next serial on a line, as an origination raised there leaves it before the planes are told (R84). -/
def State.stepSerial (s : State) (l : Fin 32) : State := s.modLine l fun x => { x with serial := x.serial + 1 }

/-- The event of an origination carries the serial as it has stepped. -/
theorem State.raiseOrigination_stepSerial (s : State) (l : Fin 32) :
    s.raiseOrigination l = (s.stepSerial l).postPlanes
      { kind := .origination, line := some l, party := none, detail := 0, serial := some ((s.line l).serial + 1),
        stamp := s.stamp } := by
  have hserial : ((s.stepSerial l).line l).serial = (s.line l).serial + 1 := by
    rw [State.stepSerial, State.modLine_line_self]
  rw [← hserial]
  rfl

/-! ### Off-hook and trip findings (R80, R81) -/

theorem State.job?_eq_none_of {s : State} {l : Fin 32} (h : s.hasJob l = false) : s.job? l = none := by
  simpa [State.hasJob] using h

theorem State.revert?_eq_none_of {s : State} {l : Fin 32} (h : s.hasRevert l = false) : s.revert? l = none := by
  simpa [State.hasRevert] using h

/-- The off-hook of a line with neither job nor revert is reported. -/
theorem State.takeOffHook_idle (hj : s.hasJob l = false) (hr : s.hasRevert l = false) :
    s.takeOffHook l = s.reportOffHook l := by
  simp only [State.takeOffHook, State.job?_eq_none_of hj, State.revert?_eq_none_of hr]

/-- A line is offered to the planes where it is unbound, ENABLED and not parked, without work (R80, R82). -/
theorem State.offered_iff :
    s.offered l = true ↔ (s.line l).desc.admin = .enabled ∧ (s.line l).owner = none ∧ (s.line l).parked = false ∧
      s.hasJob l = false ∧ s.hasRevert l = false := by
  simp [State.offered, and_assoc]

/-- A bound line tells its owner of an off-hook (R80). -/
theorem State.reportOffHook_bound {q : Port} (ho : (s.line l).owner = some q) :
    s.reportOffHook l = s.postOwner l (s.lineEvent .lineOffHook l 0) := if_pos (by rw [ho]; rfl)

theorem State.reportOffHook_offered (h : s.offered l = true) : s.reportOffHook l = s.raiseOrigination l :=
  (if_neg (by simp [(State.offered_iff.1 h).2.1])).trans (if_pos h)

theorem State.reportOffHook_silent (ho : (s.line l).owner = none) (h : ¬s.offered l = true) :
    s.reportOffHook l = s := (if_neg (by simp [ho])).trans (if_neg h)

theorem findingsOf_congr {s t : State} (h : t.findings = s.findings) (l : Fin 32) : findingsOf t l = findingsOf s l := by
  simp only [findingsOf, h]

/-- The report of an off-hook leaves the findings as they are. -/
theorem State.reportOffHook_findings (s : State) (l : Fin 32) : (s.reportOffHook l).findings = s.findings := by
  unfold State.reportOffHook
  split
  · exact State.postOwner_findings s l _
  · split
    · exact State.raiseOrigination_findings s l
    · rfl

/-- Settles O37: the finding is taken, and the line's off-hook reported by its binding, its admin state and its parked
flag. -/
theorem offHookOfAnIdleLine : Obligations.OffHookOfAnIdleLine := by
  intro s l k c hkind hk hj hr
  have hexec := exec_offHook hkind hk
  obtain ⟨u, hu⟩ : ∃ u, u = s.takeFinding l := ⟨_, rfl⟩
  have hoffered : u.offered l = s.offered l := by rw [hu]; rfl
  have howner : (u.line l).owner = (s.line l).owner := by rw [hu]; rfl
  rw [State.takeOffHook_idle (s := s.takeFinding l) hj hr, ← hu] at hexec
  refine ⟨u.reportOffHook l, hexec, ?_, fun ho ha hp => ?_, fun q ho => ?_, fun ho h => ?_⟩
  · rw [findingsOf_eq_cons hk, ← hu, findingsOf_congr (u.reportOffHook_findings l)]
  · rw [State.reportOffHook_offered (hoffered.trans (State.offered_iff.2 ⟨ha, ho, hp, hj, hr⟩)),
      State.raiseOrigination_stepSerial, State.postPlanes_eq, hu]
    refine ⟨rfl, ?_, fun k hk => ?_, fun q => ?_⟩
    · exact s.modLine_line_self l fun x => { x with serial := x.serial + 1 }
    · exact s.modLine_line_other (fun x => { x with serial := x.serial + 1 }) hk
    · exact State.postPlanes_port ((s.takeFinding l).stepSerial l) _ q
  · rw [State.reportOffHook_bound (howner.trans ho)]
    refine ⟨?_, fun q' => ?_⟩
    · rw [State.postOwner_eq, hu]; rfl
    · rw [State.postOwner_port_owner (howner.trans ho) _ q', hu]; rfl
  · have hnot : ¬u.offered l = true := fun hc => by
      obtain ⟨ha, -, hp, -⟩ := State.offered_iff.1 (hoffered ▸ hc)
      simp [ha, hp] at h
    rw [State.reportOffHook_silent (howner.trans ho) hnot, hu]
    rfl

/-! ### On-hook findings (R82) -/

/-- Two changes of one line are one. -/
theorem State.modLine_modLine (s : State) (l : Fin 32) (g g' : Line → Line) :
    (s.modLine l g).modLine l g' = s.modLine l fun x => g' (g x) := by
  rw [State.modLine, State.modLine_line_self]
  simp [State.modLine]

/-- The change of a line depends on what it makes of that line alone. -/
theorem State.modLine_congr {g g' : Line → Line} (h : g (s.line l) = g' (s.line l)) : s.modLine l g = s.modLine l g' := by
  rw [State.modLine, State.modLine, h]

/-- The line is given up: its owner is none and the parked flag is clear. -/
def State.hangUp (s : State) (l : Fin 32) : State := s.modLine l fun x => { x with owner := none, parked := false }

/-- Who is told of an on-hook: the owner of the line, or the planes where the line is offered to them. -/
def State.tellOnHook (s : State) (l : Fin 32) : State :=
  if (s.line l).owner.isSome then s.postOwner l (s.lineEvent .lineOnHook l 0)
  else if s.offered l then s.abandonOrigination l
  else s

theorem State.tellOnHook_eq (s : State) (l : Fin 32) : s.tellOnHook l = { s with ports := (s.tellOnHook l).ports } := by
  unfold State.tellOnHook
  split
  · exact s.postOwner_eq l _
  · split
    · exact s.abandonOrigination_eq l
    · rfl

theorem State.tellOnHook_line (s : State) (l k : Fin 32) : (s.tellOnHook l).line k = s.line k := by
  rw [State.tellOnHook_eq]; rfl

theorem State.tellOnHook_bound {q : Port} (ho : (s.line l).owner = some q) :
    s.tellOnHook l = s.postOwner l (s.lineEvent .lineOnHook l 0) := if_pos (by rw [ho]; rfl)

theorem State.tellOnHook_offered (h : s.offered l = true) : s.tellOnHook l = s.abandonOrigination l :=
  (if_neg (by simp [(State.offered_iff.1 h).2.1])).trans (if_pos h)

theorem State.tellOnHook_silent (ho : (s.line l).owner = none) (h : ¬s.offered l = true) : s.tellOnHook l = s :=
  (if_neg (by simp [ho])).trans (if_neg h)

/-- An on-hook on a line without a revert is told, and the line is given up (R82). -/
theorem State.takeOnHook_reported (hr : s.hasRevert l = false) : s.takeOnHook l = (s.tellOnHook l).hangUp l := by
  have hline := s.tellOnHook_line l l
  simp only [State.takeOnHook, State.revert?_eq_none_of hr, State.reportOnHook]
  by_cases ho : (s.line l).owner.isSome = true
  · rw [if_pos ho, State.modLine_modLine, State.tellOnHook, if_pos ho]
    rfl
  · have htold : s.tellOnHook l = if s.offered l then s.abandonOrigination l else s := if_neg ho
    rw [if_neg ho, ← htold]
    refine State.modLine_congr ?_
    rw [hline, ← Option.not_isSome_iff_eq_none.1 ho]

/-! ### Flash findings (R83) -/

theorem exec_flash {n : Nat} (h : s.nextFinding l = some (.flash n)) :
    exec (.flashFinding l) s = .next ((s.takeFinding l).takeFlash l n) := by
  simp only [exec, execFlashFinding, h]

theorem State.takeFlash_reverting (n : Nat) (h : s.hasRevert l = true) : s.takeFlash l n = s := if_pos h

theorem State.takeFlash_told (n : Nat) (h : s.hasRevert l = false) :
    s.takeFlash l n = s.postOwner l (s.lineEvent .lineFlash l (detail 0 (byteOf n))) := if_neg (by simp [h])

/-- A flash touches the ports alone. -/
theorem State.takeFlash_eq (s : State) (l : Fin 32) (n : Nat) :
    s.takeFlash l n = { s with ports := (s.takeFlash l n).ports } := by
  unfold State.takeFlash
  split
  · rfl
  · exact s.postOwner_eq l _

/-- A flash on a line with a revert, and one on an unbound line, reach nobody. -/
theorem State.takeFlash_silent (n : Nat) (h : s.hasRevert l = true ∨ (s.line l).owner = none) : s.takeFlash l n = s := by
  by_cases hr : s.hasRevert l = true
  · exact State.takeFlash_reverting n hr
  · rw [State.takeFlash_told n (by simpa using hr), State.postOwner_unbound (h.resolve_left hr)]

/-- Settles O39: what an on-hook and a flash report, and what they leave of the line. -/
theorem onHookAndFlashReachTheOwner : Obligations.OnHookAndFlashReachTheOwner := by
  refine ⟨fun s l hk hr => ?_, fun s l n hk => ?_⟩
  · have hexec := exec_onHook hk
    obtain ⟨u, hu⟩ : ∃ u, u = s.takeFinding l := ⟨_, rfl⟩
    have hline (k : Fin 32) : u.line k = s.line k := by rw [hu]; rfl
    have hoffered : u.offered l = s.offered l := by rw [hu]; rfl
    rw [State.takeOnHook_reported (s := s.takeFinding l) hr, ← hu] at hexec
    obtain ⟨ps, hps⟩ : ∃ ps, u.tellOnHook l = { u with ports := ps } := ⟨_, u.tellOnHook_eq l⟩
    refine ⟨_, hexec, ?_, ?_, ?_, fun k hk => ?_, fun q ho q' => ?_, fun ho ha hp hj q => ?_, fun ho h => ?_⟩
    · rw [hps, hu]; rfl
    · rw [findingsOf_eq_cons hk, ← hu, hps]; rfl
    · rw [State.hangUp, State.modLine_line_self, State.tellOnHook_line, hline]
    · rw [State.hangUp, State.modLine_line_other _ _ hk, State.tellOnHook_line, hline]
    · have howner : (u.line l).owner = some q := (congrArg Line.owner (hline l)).trans ho
      rw [State.tellOnHook_bound howner]
      refine (State.postOwner_port_owner howner _ q').trans ?_
      rw [hu]; rfl
    · rw [State.tellOnHook_offered (hoffered.trans (State.offered_iff.2 ⟨ha, ho, hp, hj, hr⟩))]
      refine (State.postPlanes_port u _ q).trans ?_
      rw [hu]; rfl
    · have hnot : ¬u.offered l = true := fun hc => by
        obtain ⟨ha, -, hp, hj, -⟩ := State.offered_iff.1 (hoffered ▸ hc)
        simp [ha, hp, hj] at h
      rw [State.tellOnHook_silent ((congrArg Line.owner (hline l)).trans ho) hnot, hu]
      rfl
  · have hexec := exec_flash hk
    refine ⟨_, hexec, ?_, ?_, fun h => ?_, fun q hr ho q' => ?_⟩
    · rw [State.takeFlash_eq]; rfl
    · rw [findingsOf_eq_cons hk, State.takeFlash_eq]; rfl
    · rw [State.takeFlash_silent (s := s.takeFinding l) n h]; rfl
    · rw [State.takeFlash_told (s := s.takeFinding l) n hr]
      exact State.postOwner_port_owner (s := s.takeFinding l) ho _ q'

end Sys2Proof.Machine
end

section
/-! PROOFS. One sample of a line (R74): what its first two steps, the drive view and the readback, leave for trip sense and loop
sense (R77, R87, R88), and what it leaves of the other lines. -/

namespace Sys2Proof.Machine

variable {s t u : State} {l k : Fin 32}

/-! ### A line that a change leaves as it was -/

/-- The line's record and its findings are as they were. -/
structure LineStays (l : Fin 32) (s t : State) : Prop where
  line : t.line l = s.line l
  findings : findingsOf t l = findingsOf s l

theorem LineStays.refl (l : Fin 32) (s : State) : LineStays l s s := ⟨rfl, rfl⟩

theorem LineStays.trans (h : LineStays l s t) (h' : LineStays l t u) : LineStays l s u :=
  ⟨h'.line.trans h.line, h'.findings.trans h.findings⟩

theorem LineStays.modLine (s : State) (h : k ≠ l) (g : Line → Line) : LineStays k s (s.modLine l g) :=
  ⟨s.modLine_line_other g h, rfl⟩

theorem LineStays.makeFinding (s : State) (h : k ≠ l) (x : FindingKind) : LineStays k s (s.makeFinding l x) :=
  ⟨rfl, by rw [makeFinding_findingsOf, if_neg h.symm, List.append_nil]⟩

theorem LineStays.failClosure (s : State) (h : k ≠ l) : LineStays k s (s.failClosure l) := by
  refine ⟨by rw [State.failClosure_line, if_neg h], ?_⟩
  unfold State.failClosure
  split
  · exact voidFindings_findingsOf_other _ h
  · rfl

/-! ### The relay fault (R88) -/

/-- The record of a line that a relay fault is found on: FAULTED, with drive NONE (R6). -/
def faultedLine (x : Line) : Line := { x with desc := { x.desc with admin := .faulted }, drive := none }

/-- A relay fault gives the binding up where the line has work and is met on-hook (R70, R113). -/
def State.faultReleases (s : State) (l : Fin 32) : Bool := (s.hasJob l || s.hasRevert l) && s.seen l == .onHook

/-- The line of a relay fault with its origination abandoned, before its work ends (R88). -/
def State.lineFaulted (s : State) (l : Fin 32) : State :=
  if s.outstanding l then (s.modLine l faultedLine).abandonOrigination l else s.modLine l faultedLine

theorem State.lineFaulted_eq (s : State) (l : Fin 32) :
    s.lineFaulted l = { s.modLine l faultedLine with ports := (s.lineFaulted l).ports } := by
  unfold State.lineFaulted
  split
  · exact State.abandonOrigination_eq _ l
  · rfl

theorem State.lineFaulted_line (s : State) (l k : Fin 32) :
    (s.lineFaulted l).line k = if k = l then faultedLine (s.line l) else s.line k := by
  rw [← State.modLine_line, State.lineFaulted_eq]; rfl

/-- What the fault leaves of the supervision met and of the line's work until the work ends. -/
theorem State.lineFaulted_meets (s : State) (l : Fin 32) :
    (s.lineFaulted l).seen l = s.seen l ∧ (s.lineFaulted l).hasJob l = s.hasJob l ∧
      (s.lineFaulted l).hasRevert l = s.hasRevert l := by
  have hline := s.lineFaulted_line l l
  rw [if_pos rfl] at hline
  refine ⟨State.seen_congr l ?_ (by rw [hline]; rfl), ?_, ?_⟩ <;> rw [State.lineFaulted_eq] <;> rfl

/-- A relay fault: the line is FAULTED, its work ends if it has any, and the fault is captured (R88). -/
theorem State.takeRelayFault_eq (s : State) (l : Fin 32) :
    s.takeRelayFault l =
      (if s.hasJob l || s.hasRevert l then
        (s.lineFaulted l).endCallAndPass l .lineFault (s.seen l == .onHook)
      else s.lineFaulted l).capture .relayFault none (some l) := by
  obtain ⟨hseen, hjob, hrevert⟩ := s.lineFaulted_meets l
  rw [← hseen, ← hjob, ← hrevert]
  rfl

/-- What a relay fault leaves of every line's record. -/
theorem State.takeRelayFault_line (s : State) (l k : Fin 32) :
    (s.takeRelayFault l).line k =
      if k = l then
        if s.faultReleases l then { faultedLine (s.line l) with owner := none, parked := false }
        else faultedLine (s.line l)
      else s.line k := by
  rw [State.takeRelayFault_eq, State.line_congr (State.capture_lines _ _ _ _), State.faultReleases]
  cases s.hasJob l || s.hasRevert l
  · exact s.lineFaulted_line l k
  · obtain ⟨-, hself, hothers, -⟩ :=
      CallEnded.endCallAndPass (s.lineFaulted l) l .lineFault (s.seen l == .onHook)
    simp only [if_true, Bool.true_and]
    by_cases h : k = l
    · subst h
      rw [hself, if_pos rfl, s.lineFaulted_line, if_pos rfl]
      rfl
    · rw [hothers k h, s.lineFaulted_line, if_neg h, if_neg h]

/-- A relay fault touches no finding. -/
theorem State.takeRelayFault_findings (s : State) (l : Fin 32) : (s.takeRelayFault l).findings = s.findings := by
  have hfaulted : (s.lineFaulted l).findings = s.findings := by rw [State.lineFaulted_eq]; rfl
  rw [State.takeRelayFault_eq, State.capture_findings]
  split
  · rw [State.endCallAndPass, State.passIf_findings, State.endCall_findings, hfaulted]
  · exact hfaulted

theorem LineStays.takeRelayFault (s : State) (h : k ≠ l) : LineStays k s (s.takeRelayFault l) :=
  ⟨by rw [State.takeRelayFault_line, if_neg h], findingsOf_congr (s.takeRelayFault_findings l) k⟩

/-! ### What a sample can touch -/

/-- Only lines, work, findings, ports and the fault record differ. -/
def OnlySampled (s t : State) : Prop :=
  t = { s with
    lines := t.lines, jobs := t.jobs, reverts := t.reverts, findings := t.findings, ports := t.ports
    faultRecord := t.faultRecord, missed := t.missed }

theorem OnlySampled.trans (h : OnlySampled s t) (h' : OnlySampled t u) : OnlySampled s u := by
  unfold OnlySampled at *
  rw [h', h]

theorem OnlySampled.takeRelayFault (s : State) (l : Fin 32) : OnlySampled s (s.takeRelayFault l) := by
  have hfaulted : OnlySampled s (s.lineFaulted l) := by
    unfold OnlySampled; rw [State.lineFaulted_eq]; rfl
  have hended : OnlySampled (s.lineFaulted l) ((s.lineFaulted l).endCallAndPass l .lineFault (s.seen l == .onHook)) := by
    unfold OnlySampled
    rw [(CallEnded.endCallAndPass (s.lineFaulted l) l .lineFault (s.seen l == .onHook)).rest]
  have hcapture (v : State) : OnlySampled v (v.capture .relayFault none (some l)) := by
    unfold OnlySampled; rw [State.capture_eq]
  rw [State.takeRelayFault_eq]
  split
  · exact (hfaulted.trans hended).trans (hcapture _)
  · exact hfaulted.trans (hcapture _)

/-! ### The readback (R87) -/

/-- What the readback of a line leaves for the later steps of its sample: but for a binding that a relay fault gives up on a
line met on-hook, the record that they read is as it was. -/
structure ReadBack (s t : State) (l : Fin 32) : Prop where
  only : OnlySampled s t
  others : ∀ k, k ≠ l → LineStays k s t
  findings : findingsOf t l = findingsOf s l
  supervision : (t.line l).supervision = (s.line l).supervision
  serial : (t.line l).serial = (s.line l).serial
  scan : (t.line l).scan = { (s.line l).scan with mismatchRun := (t.line l).scan.mismatchRun }
  parked : s.seen l ≠ .onHook → (t.line l).parked = (s.line l).parked

theorem ReadBack.refl (s : State) (l : Fin 32) : ReadBack s s l :=
  ⟨rfl, fun _ _ => .refl _ s, rfl, rfl, rfl, rfl, fun _ => rfl⟩

theorem ReadBack.setMismatchRun (s : State) (l : Fin 32) (g : Scan → Nat) :
    ReadBack s (s.modScan l fun c => { c with mismatchRun := g c }) l := by
  refine ⟨rfl, fun k hk => .modLine s hk _, rfl, ?_, ?_, ?_, fun _ => ?_⟩ <;> rw [State.modScan, State.modLine_line_self]

theorem ReadBack.takeRelayFault (s : State) (l : Fin 32) : ReadBack s (s.takeRelayFault l) l := by
  have hline := s.takeRelayFault_line l l
  rw [if_pos rfl] at hline
  have hkept : s.seen l ≠ .onHook → s.faultReleases l = false := fun h => by simp [State.faultReleases, h]
  refine ⟨.takeRelayFault s l, fun k hk => .takeRelayFault s hk, findingsOf_congr (s.takeRelayFault_findings l) l,
    ?_, ?_, ?_, fun h => ?_⟩
  · rw [hline]; split <;> rfl
  · rw [hline]; split <;> rfl
  · rw [hline]; split <;> rfl
  · rw [hline, hkept h]; rfl

theorem ReadBack.seen (h : ReadBack s t l) : t.seen l = s.seen l := by
  rw [State.seen_eq, State.seen_eq, supervisionMet, supervisionMet, h.findings, h.supervision]

theorem ReadBack.trans (h : ReadBack s t l) (h' : ReadBack t u l) : ReadBack s u l where
  only := h.only.trans h'.only
  others k hk := (h.others k hk).trans (h'.others k hk)
  findings := h'.findings.trans h.findings
  supervision := h'.supervision.trans h.supervision
  serial := h'.serial.trans h.serial
  scan := by rw [h'.scan, h.scan]
  parked hs := (h'.parked (h.seen ▸ hs)).trans (h.parked hs)

theorem ReadBack.readbackStep (s : State) (i : LineInput) : ReadBack s (s.readbackStep i) i.line := by
  unfold State.readbackStep
  dsimp only
  split
  · exact .refl s _
  · split
    · exact .setMismatchRun s _ fun _ => 0
    · split
      · exact .setMismatchRun s _ fun c => c.mismatchRun + 1
      · exact (ReadBack.setMismatchRun s _ fun _ => 0).trans (.takeRelayFault _ _)

end Sys2Proof.Machine
end

section
/-! PROOFS. Trip sense and loop sense by the drive view (R75 to R79), and a whole sample as one sample of each of its lines
(R74). -/

namespace Sys2Proof.Machine

variable {s t u : State} {l k : Fin 32} {i : LineInput}

/-! ### The drive view (R77) -/

theorem nextView_viewTable (b : Bool) (c : Scan) :
    ((nextView b c).view, (nextView b c).samples) = viewTable c.view b c.samples := by
  rcases c with ⟨n, v, m, tr, mm⟩
  cases v <;> cases b <;> simp only [nextView, viewTable]
  split <;> rfl

/-- The view is BURST exactly while the drive is set. -/
theorem nextView_burst_iff (b : Bool) (c : Scan) : (nextView b c).view = .burst ↔ b = true := by
  have hv := congrArg Prod.fst (nextView_viewTable b c)
  dsimp only at hv
  rw [hv]
  cases c.view <;> cases b <;> simp [viewTable]
  case guard.false => split <;> simp

/-- The trip run is cleared where a burst starts and where one ends. -/
theorem nextView_tripRun (b : Bool) (c : Scan) :
    (nextView b c).tripRun = if (c.view == .burst) = b then c.tripRun else 0 := by
  rcases c with ⟨n, v, m, tr, mm⟩
  cases v <;> cases b <;> simp [nextView]
  case guard.false => split <;> rfl

/-- The record of a line as the first two steps of its sample leave it to the later ones: the drive view is taken, and but
for a binding that a relay fault gives up on a line met on-hook they read the rest as it was. -/
structure ViewedLine (l : Fin 32) (s t : State) : Prop where
  findings : findingsOf t l = findingsOf s l
  supervision : (t.line l).supervision = (s.line l).supervision
  serial : (t.line l).serial = (s.line l).serial
  scan : (t.line l).scan =
    { nextView (s.line l).drive.isSome (s.line l).scan with mismatchRun := (t.line l).scan.mismatchRun }
  parked : s.seen l ≠ .onHook → (t.line l).parked = (s.line l).parked

theorem ViewedLine.of_readBack (h : ReadBack (s.viewStep l) t l) : ViewedLine l s t := by
  have hline : (s.viewStep l).line l =
      { s.line l with scan := nextView (s.line l).drive.isSome (s.line l).scan } := s.modLine_line_self l _
  have hseen : (s.viewStep l).seen l = s.seen l := State.seen_congr l rfl (by rw [hline])
  refine ⟨h.findings, ?_, ?_, ?_, fun hs => ?_⟩
  · rw [h.supervision, hline]
  · rw [h.serial, hline]
  · rw [h.scan, hline]
  · rw [h.parked (hseen ▸ hs), hline]

theorem LineStays.seen (h : LineStays l s t) : t.seen l = s.seen l := by
  rw [State.seen_eq, State.seen_eq, supervisionMet, supervisionMet, h.findings, h.line]

/-- Nothing that the samples of other lines do before it is seen by a line's own. -/
theorem ViewedLine.of_stays (h : LineStays l s t) (h' : ViewedLine l t u) : ViewedLine l s u := by
  refine ⟨h'.findings.trans h.findings, ?_, ?_, ?_, fun hs => ?_⟩
  · rw [h'.supervision, h.line]
  · rw [h'.serial, h.line]
  · rw [h'.scan, h.line]
  · rw [h'.parked (h.seen ▸ hs), h.line]

theorem ViewedLine.view (h : ViewedLine l s t) :
    ((t.line l).scan.view, (t.line l).scan.samples) =
      viewTable (s.line l).scan.view (s.line l).drive.isSome (s.line l).scan.samples := by
  rw [h.scan, ← nextView_viewTable]

theorem ViewedLine.runCount (h : ViewedLine l s t) : (t.line l).scan.runCount = (s.line l).scan.runCount := by
  rw [h.scan]; exact (nextView_runs _ _).1

theorem ViewedLine.tripRun (h : ViewedLine l s t) :
    (t.line l).scan.tripRun =
      if ((s.line l).scan.view == .burst) = (s.line l).drive.isSome then (s.line l).scan.tripRun else 0 := by
  rw [h.scan]; exact nextView_tripRun _ _

theorem ViewedLine.burst_iff (h : ViewedLine l s t) : (t.line l).scan.view = .burst ↔ (s.line l).drive.isSome = true := by
  rw [h.scan]; exact nextView_burst_iff _ _

/-- A line that is not sampled (R74). -/
theorem State.sampleLine_unscanned (h : (s.line i.line).supervision = .unscanned) : s.sampleLine i = s := if_pos h

/-- One sample of a scanned line: trip sense and loop sense follow the drive view and the readback. -/
theorem State.sampleLine_scanned (h : (s.line i.line).supervision ≠ .unscanned) :
    ∃ w, ViewedLine i.line s w ∧ OnlySampled s w ∧ (∀ k, k ≠ i.line → LineStays k s w) ∧
      s.sampleLine i = w.senseStep i := by
  have hback := ReadBack.readbackStep (s.viewStep i.line) i
  have honly : OnlySampled s (s.viewStep i.line) := rfl
  have hothers (k : Fin 32) (hk : k ≠ i.line) : LineStays k s (s.viewStep i.line) :=
    ⟨s.modLine_line_other _ hk, rfl⟩
  exact ⟨_, .of_readBack hback, honly.trans hback.only, fun k hk => (hothers k hk).trans (hback.others k hk), if_neg h⟩

/-! ### Trip sense (R79) -/

/-- Trip sense is counted past the blanking, on a line that is not off-hook. -/
def TripCounted (x : Line) (trip : Bool) : Prop :=
  20 ≤ x.scan.samples ∧ x.supervision ≠ .offHook ∧ x.supervision ≠ .opening ∧ trip = true

theorem not_tripCounted_iff {x : Line} {trip : Bool} :
    ¬TripCounted x trip ↔ x.scan.samples < 20 ∨ isOffHook x.supervision = true ∨ trip = false := by
  have hoff : isOffHook x.supervision = true ↔ ¬(x.supervision ≠ .offHook ∧ x.supervision ≠ .opening) := by
    cases x.supervision <;> simp [isOffHook]
  rw [TripCounted, hoff, ← and_assoc (a := x.supervision ≠ .offHook), not_and_or, not_and_or, not_le, Bool.not_eq_true]

theorem State.tripStep_blanked (h : ¬TripCounted (s.line i.line) i.trip) :
    s.tripStep i = s.modScan i.line fun c => { c with tripRun := 0 } := if_pos (not_tripCounted_iff.1 h)

theorem State.tripStep_counts (h : TripCounted (s.line i.line) i.trip) (hn : (s.line i.line).scan.tripRun < 2) :
    s.tripStep i = s.modScan i.line fun c => { c with tripRun := c.tripRun + 1 } :=
  (if_neg (mt not_tripCounted_iff.2 (not_not.2 h))).trans (if_pos (Nat.succ_lt_succ hn))

theorem State.tripStep_trips (h : TripCounted (s.line i.line) i.trip) (hn : 2 ≤ (s.line i.line).scan.tripRun) :
    s.tripStep i = (s.modLine i.line fun x =>
      { x with supervision := .offHook, scan := { x.scan with tripRun := 0, runCount := 0 } }).makeFinding
        i.line .trip :=
  (if_neg (mt not_tripCounted_iff.2 (not_not.2 h))).trans (if_neg (by omega))

/-! ### Loop sense (R75, R76) -/

/-- The sample fails the closure of a line (R75). -/
def closureFails (x : Line) (closed : Bool) : Bool := x.supervision == .closing && !closed

theorem closureFails_iff {x : Line} {closed : Bool} :
    closureFails x closed = true ↔ x.supervision = .closing ∧ closed = false := by
  simp [closureFails]

/-- A line takes the row of the loop supervision tables: supervision, run count, and the finding made. -/
def State.takeLoopRow (s : State) (l : Fin 32) (row : Supervision × Nat × Option FindingKind) : State :=
  match row.2.2 with
  | none => s.setSupervision l row.1 row.2.1
  | some x => (s.setSupervision l row.1 row.2.1).makeFinding l x

theorem State.setSupervision_same (s : State) (l : Fin 32) :
    s.setSupervision l (s.line l).supervision (s.line l).scan.runCount = s := by
  have hsame : s.modLine l (fun x => x) = s := by simp [State.modLine, State.line, Vector.get_eq_getElem]
  exact hsame

theorem State.loopStep_fails (h : closureFails (s.line i.line) i.closed = true) :
    s.loopStep i = s.failClosure i.line := by
  obtain ⟨hv, hc⟩ := closureFails_iff.1 h
  simp only [State.loopStep, hv, hc]

/-- But for a failed closure a loop sample takes the row of R75 and R76. -/
theorem State.loopStep_row (h : closureFails (s.line i.line) i.closed = false) :
    s.loopStep i =
      s.takeLoopRow i.line (loopTable (s.line i.line).supervision (s.line i.line).scan.runCount i.closed) := by
  have idle : s.takeLoopRow i.line ((s.line i.line).supervision, (s.line i.line).scan.runCount, none) = s :=
    s.setSupervision_same i.line
  unfold State.loopStep
  dsimp only
  split
  · next hv => rw [hv] at idle ⊢; exact idle.symm
  · next hv hc => rw [hv] at idle ⊢; rw [hc]; exact idle.symm
  · next hv hc => rw [hv, hc]; rfl
  · next hv hc => rw [hv, hc, loopTable]; split <;> rfl
  · next hv hc => simp [closureFails, hv, hc] at h
  · next hv hc => rw [hv] at idle ⊢; rw [hc]; exact idle.symm
  · next hv hc => rw [hv, hc]; rfl
  · next hv hc => rw [hv, hc, loopTable]; split <;> rfl
  · next hv hc =>
      rw [hv, hc, loopTable]
      simp only [Nat.lt_succ_iff (n := 7)]
      split <;> rfl

theorem State.takeLoopRow_line (s : State) (l : Fin 32) (row : Supervision × Nat × Option FindingKind) :
    (s.takeLoopRow l row).line l =
      { s.line l with supervision := row.1, scan := { (s.line l).scan with runCount := row.2.1 } } := by
  have hset : (s.setSupervision l row.1 row.2.1).line l =
      { s.line l with supervision := row.1, scan := { (s.line l).scan with runCount := row.2.1 } } :=
    s.modLine_line_self l _
  unfold State.takeLoopRow
  split
  · exact hset
  · exact hset

theorem State.takeLoopRow_findingsOf (s : State) (l : Fin 32) (row : Supervision × Nat × Option FindingKind) :
    findingsOf (s.takeLoopRow l row) l = findingsOf s l ++ row.2.2.toList := by
  have hset : findingsOf (s.setSupervision l row.1 row.2.1) l = findingsOf s l := findingsOf_congr rfl l
  unfold State.takeLoopRow
  split
  · next h => rw [hset, h]; exact (List.append_nil _).symm
  · next x h => rw [makeFinding_findingsOf, hset, h, if_pos rfl]; rfl

theorem LineStays.takeLoopRow (s : State) (h : k ≠ l) (row : Supervision × Nat × Option FindingKind) :
    LineStays k s (s.takeLoopRow l row) := by
  have hset : LineStays k s (s.setSupervision l row.1 row.2.1) := .modLine s h _
  unfold State.takeLoopRow
  split
  · exact hset
  · exact hset.trans (.makeFinding _ h _)

/-! ### Trip sense and loop sense by the drive view (R74) -/

theorem State.senseStep_burst (h : (s.line i.line).scan.view = .burst) : s.senseStep i = s.tripStep i := by
  simp only [State.senseStep, h]

theorem State.senseStep_clear (h : (s.line i.line).scan.view = .clear) : s.senseStep i = s.loopStep i := by
  simp only [State.senseStep, h]

theorem State.senseStep_guard (h : (s.line i.line).scan.view = .guard) : s.senseStep i = s := by
  simp only [State.senseStep, h]

/-- What sensing can do to the part: a change of the one line, and of its findings. -/
structure Sensed (s t : State) (l : Fin 32) : Prop where
  only : OnlySampled s t
  others : ∀ k, k ≠ l → LineStays k s t
  view : (t.line l).scan.view = (s.line l).scan.view
  samples : (t.line l).scan.samples = (s.line l).scan.samples
  serial : (t.line l).serial = (s.line l).serial

theorem Sensed.refl (s : State) (l : Fin 32) : Sensed s s l := ⟨rfl, fun _ _ => .refl _ s, rfl, rfl, rfl⟩

theorem Sensed.takeLoopRow (s : State) (l : Fin 32) (row : Supervision × Nat × Option FindingKind) :
    Sensed s (s.takeLoopRow l row) l := by
  refine ⟨?_, fun k hk => .takeLoopRow s hk row, ?_, ?_, ?_⟩
  · unfold State.takeLoopRow
    split <;> rfl
  all_goals rw [State.takeLoopRow_line]

theorem Sensed.failClosure (s : State) (l : Fin 32) : Sensed s (s.failClosure l) l := by
  refine ⟨?_, fun k hk => .failClosure s hk, ?_, ?_, ?_⟩
  · unfold State.failClosure
    dsimp only
    split <;> rfl
  all_goals rw [State.failClosure_line, if_pos rfl]

theorem Sensed.loopStep (s : State) (i : LineInput) : Sensed s (s.loopStep i) i.line := by
  cases h : closureFails (s.line i.line) i.closed with
  | true => rw [State.loopStep_fails h]; exact .failClosure s _
  | false => rw [State.loopStep_row h]; exact .takeLoopRow s _ _

theorem Sensed.setTripRun (s : State) (l : Fin 32) (g : Scan → Nat) :
    Sensed s (s.modScan l fun c => { c with tripRun := g c }) l := by
  refine ⟨rfl, fun k hk => .modLine s hk _, ?_, ?_, ?_⟩
  all_goals rw [State.modScan, State.modLine_line_self]

theorem Sensed.tripStep (s : State) (i : LineInput) : Sensed s (s.tripStep i) i.line := by
  by_cases hc : TripCounted (s.line i.line) i.trip
  · rcases Nat.lt_or_ge (s.line i.line).scan.tripRun 2 with hn | hn
    · rw [State.tripStep_counts hc hn]; exact .setTripRun s _ fun c => c.tripRun + 1
    · rw [State.tripStep_trips hc hn]
      refine ⟨rfl, fun k hk => (LineStays.modLine s hk _).trans (.makeFinding _ hk _), ?_, ?_, ?_⟩
      all_goals rw [State.line_congr (State.makeFinding_lines _ _ _), State.modLine_line_self]
  · rw [State.tripStep_blanked hc]; exact .setTripRun s _ fun _ => 0

theorem Sensed.senseStep (s : State) (i : LineInput) : Sensed s (s.senseStep i) i.line := by
  unfold State.senseStep
  split
  · exact .tripStep s i
  · exact .loopStep s i
  · exact .refl s _

/-! ### A whole sample (R74) -/

theorem OnlySampled.sampleLine (s : State) (i : LineInput) : OnlySampled s (s.sampleLine i) := by
  by_cases h : (s.line i.line).supervision = .unscanned
  · rw [State.sampleLine_unscanned h]; rfl
  · obtain ⟨w, -, honly, -, e⟩ := State.sampleLine_scanned h
    exact e ▸ honly.trans (Sensed.senseStep w i).only

/-- The sample of a line leaves every other line. -/
theorem LineStays.sampleLine (s : State) (h : k ≠ i.line) : LineStays k s (s.sampleLine i) := by
  by_cases hv : (s.line i.line).supervision = .unscanned
  · rw [State.sampleLine_unscanned hv]; exact .refl k s
  · obtain ⟨w, -, -, hothers, e⟩ := State.sampleLine_scanned hv
    exact e ▸ (hothers k h).trans ((Sensed.senseStep w i).others k h)

theorem LineStays.samples (inputs : List LineInput) (h : k ∉ inputs.map (·.line)) (s : State) :
    LineStays k s (inputs.foldl State.sampleLine s) := by
  induction inputs generalizing s with
  | nil => exact .refl k s
  | cons i is ih =>
    obtain ⟨hi, his⟩ := not_or.1 (mt List.mem_cons.2 h)
    exact (LineStays.sampleLine s hi).trans (ih his _)

/-- A whole sample is, for one line, the sample of that line. -/
theorem State.samples_split {inputs : List LineInput} (hn : (inputs.map (·.line)).Nodup) (hi : i ∈ inputs)
    (s : State) :
    ∃ u, LineStays i.line s u ∧ LineStays i.line (u.sampleLine i) (inputs.foldl State.sampleLine s) := by
  obtain ⟨before, after, hsplit⟩ := List.append_of_mem hi
  subst hsplit
  rw [List.map_append, List.map_cons, List.nodup_middle, List.nodup_cons, List.mem_append, not_or] at hn
  obtain ⟨⟨hbefore, hafter⟩, -⟩ := hn
  refine ⟨before.foldl State.sampleLine s, .samples before hbefore s, ?_⟩
  rw [List.foldl_append, List.foldl_cons]
  exact .samples after hafter _

/-- A whole sample leaves a line that is not scanned (R74). -/
theorem State.samples_unscanned {inputs : List LineInput} (hn : (inputs.map (·.line)).Nodup) (hi : i ∈ inputs)
    (h : (s.line i.line).supervision = .unscanned) : LineStays i.line s (inputs.foldl State.sampleLine s) := by
  obtain ⟨u, hbefore, hafter⟩ := State.samples_split hn hi s
  rw [State.sampleLine_unscanned (hbefore.line ▸ h)] at hafter
  exact hbefore.trans hafter

/-- A whole sample of a scanned line: its trip sense and loop sense, from the drive view taken. -/
theorem State.samples_scanned {inputs : List LineInput} (hn : (inputs.map (·.line)).Nodup) (hi : i ∈ inputs)
    (h : (s.line i.line).supervision ≠ .unscanned) :
    ∃ w, ViewedLine i.line s w ∧ LineStays i.line (w.senseStep i) (inputs.foldl State.sampleLine s) := by
  obtain ⟨u, hbefore, hafter⟩ := State.samples_split hn hi s
  obtain ⟨w, hviewed, -, -, e⟩ := State.sampleLine_scanned (s := u) (by rwa [hbefore.line])
  exact ⟨w, .of_stays hbefore hviewed, e ▸ hafter⟩

/-- A well-formed sample names each line once (R74, log 8). -/
theorem scannerSample_wf_iff {inputs : List LineInput} :
    (Instr.scannerSample inputs).wf = true ↔ inputs.length = 32 ∧ (inputs.map (·.line)).Nodup := by
  simp [Instr.wf, wfScannerSample]

/-- A well-formed sample names every line. -/
theorem exists_input_of_wf {inputs : List LineInput} (h : (Instr.scannerSample inputs).wf = true) (l : Fin 32) :
    ∃ i ∈ inputs, i.line = l := by
  obtain ⟨hlength, hn⟩ := scannerSample_wf_iff.1 h
  have hall : (inputs.map (·.line)).toFinset = Finset.univ :=
    Finset.eq_univ_of_card _ (by rw [List.toFinset_card_of_nodup hn, List.length_map, hlength, Fintype.card_fin])
  simpa using Finset.ext_iff.1 hall l

theorem exec_scannerSample {inputs : List LineInput} (h : s.phase = .run) :
    exec (.scannerSample inputs) s = .next (inputs.foldl State.sampleLine s) := congrArg Host.Outcome.next (if_pos h)

end Sys2Proof.Machine
end

section
/-! PROOFS. What a sample makes of a scanned line: the drive view (R77), trip sense (R79) and loop sense (R75, R76). -/

namespace Sys2Proof.Machine

variable {s t u w : State} {l k : Fin 32} {i : LineInput}

/-! ### A line whose view is CLEAR -/

/-- Loop sense takes supervision and run count by the tables, a failed closure among them, and leaves the trip run. -/
theorem State.loopStep_follows (s : State) (i : LineInput) :
    let row := loopTable (s.line i.line).supervision (s.line i.line).scan.runCount i.closed
    ((s.loopStep i).line i.line).supervision = row.1 ∧ ((s.loopStep i).line i.line).scan.runCount = row.2.1 ∧
      ((s.loopStep i).line i.line).scan.tripRun = (s.line i.line).scan.tripRun := by
  intro row
  cases h : closureFails (s.line i.line) i.closed with
  | true =>
    obtain ⟨hv, hc⟩ := closureFails_iff.1 h
    rw [State.loopStep_fails h, State.failClosure_line, if_pos rfl]
    simp [row, hv, hc, loopTable]
  | false =>
    rw [State.loopStep_row h, State.takeLoopRow_line]
    exact ⟨rfl, rfl, rfl⟩

/-- A line in CLOSING is not met on-hook. -/
theorem State.seen_ne_onHook_of_closing (h : (s.line l).supervision = .closing) : s.seen l ≠ .onHook := by
  rw [State.seen_eq, supervisionMet]
  split
  · rw [h]; decide
  · decide
  · decide

/-- The sample that follows guard sample 9 ends the burst guard (R77). -/
theorem ViewedLine.guard_ends (h : ViewedLine l s w) (hd : (s.line l).drive = none)
    (hv : (s.line l).scan.view = .guard) (hn : 9 ≤ (s.line l).scan.samples) :
    ((w.line l).scan.view, (w.line l).scan.samples) = (.clear, 0) := by
  rw [h.view, hd, hv]
  exact if_neg (Nat.not_lt.2 hn)

/-- The view is CLEAR once taken where it was, and where the burst guard ends. -/
theorem ViewedLine.clear (h : ViewedLine l s w) (hd : (s.line l).drive = none)
    (hv : (s.line l).scan.view = .clear ∨ ((s.line l).scan.view = .guard ∧ 9 ≤ (s.line l).scan.samples)) :
    (w.line l).scan.view = .clear := by
  rcases hv with hv | ⟨hv, hn⟩
  · have hview := congrArg Prod.fst h.view
    rw [hd, hv] at hview
    exact hview
  · exact congrArg Prod.fst (h.guard_ends hd hv hn)

/-- Settles O33: the sample of the line is its loop sense, from a record that its first two steps leave as it was. -/
theorem loopSamplesFollowTheTables : Obligations.LoopSamplesFollowTheTables := by
  intro s inputs i hwf hrun hi x hdrive hview next
  have hn := (scannerSample_wf_iff.1 hwf).2
  refine ⟨_, exec_scannerSample hrun, ?_⟩
  by_cases hv : x.supervision = .unscanned
  · obtain ⟨hline, hfindings⟩ := State.samples_unscanned hn hi hv
    have hnext : next = (.unscanned, x.scan.runCount, none) := by simp only [next, hv, loopTable]
    have hnot : ¬(x.supervision = .closing ∧ i.closed = false) := by simp [hv]
    rw [hline, hfindings, hnext]
    exact ⟨hv, rfl, ⟨fun h => absurd h hnot, fun h => absurd h hnot, fun _ => (List.append_nil _).symm⟩, rfl⟩
  · obtain ⟨w, hw, hline, hfindings⟩ := State.samples_scanned hn hi hv
    rw [hline, hfindings, State.senseStep_clear (hw.clear hdrive hview)]
    obtain ⟨hsup, hcount, -⟩ := w.loopStep_follows i
    rw [hw.supervision, hw.runCount] at hsup hcount
    have hfails : closureFails (w.line i.line) i.closed = true ↔ x.supervision = .closing ∧ i.closed = false := by
      rw [closureFails_iff, hw.supervision]
    have hparked (hf : x.supervision = .closing ∧ i.closed = false) : (w.line i.line).parked = x.parked :=
      hw.parked (State.seen_ne_onHook_of_closing hf.1)
    refine ⟨hsup, hcount, ⟨fun hf => ?_, fun hf hp => ?_, fun h => ?_⟩, (Sensed.loopStep w i).serial.trans hw.serial⟩
    · rw [State.loopStep_fails (hfails.2 hf), State.failClosure_line, if_pos rfl]
    · rw [State.loopStep_fails (hfails.2 hf), State.failClosure_findingsOf, if_pos ((hparked hf).trans hp), hw.findings]
    · by_cases hf : x.supervision = .closing ∧ i.closed = false
      · have hp : ¬(w.line i.line).parked = true := by
          rw [hparked hf, Bool.not_eq_true]; exact h.resolve_left (not_not.2 hf)
        have hnone : next.2.2 = none := by simp only [next, hf.1, hf.2, loopTable]
        rw [State.loopStep_fails (hfails.2 hf), State.failClosure_findingsOf, if_neg hp, hw.findings, hnone]
        exact (List.append_nil _).symm
      · rw [State.loopStep_row (Bool.eq_false_iff.2 (mt hfails.1 hf)), State.takeLoopRow_findingsOf, hw.findings,
          hw.supervision, hw.runCount]

/-! ### Trip sense (R79) -/

/-- A sample that does not count trip sense clears the trip run and holds the rest (R78, R79). -/
theorem State.tripStep_blanked_spec (h : ¬TripCounted (s.line i.line) i.trip) :
    (s.tripStep i).line i.line = { s.line i.line with scan := { (s.line i.line).scan with tripRun := 0 } } ∧
      findingsOf (s.tripStep i) i.line = findingsOf s i.line := by
  rw [State.tripStep_blanked h]
  exact ⟨s.modLine_line_self i.line fun x => { x with scan := { x.scan with tripRun := 0 } }, findingsOf_congr rfl _⟩

/-- The first and the second PRESENT sample of a run are counted. -/
theorem State.tripStep_counts_spec (h : TripCounted (s.line i.line) i.trip) (hn : (s.line i.line).scan.tripRun < 2) :
    (s.tripStep i).line i.line =
        { s.line i.line with scan := { (s.line i.line).scan with tripRun := (s.line i.line).scan.tripRun + 1 } } ∧
      findingsOf (s.tripStep i) i.line = findingsOf s i.line := by
  rw [State.tripStep_counts h hn]
  exact ⟨s.modLine_line_self i.line fun x => { x with scan := { x.scan with tripRun := x.scan.tripRun + 1 } },
    findingsOf_congr rfl _⟩

/-- The third is a trip. -/
theorem State.tripStep_trips_spec (h : TripCounted (s.line i.line) i.trip) (hn : 2 ≤ (s.line i.line).scan.tripRun) :
    (s.tripStep i).line i.line =
        { s.line i.line with
          supervision := .offHook, scan := { (s.line i.line).scan with tripRun := 0, runCount := 0 } } ∧
      findingsOf (s.tripStep i) i.line = findingsOf s i.line ++ [.trip] := by
  rw [State.tripStep_trips h hn]
  refine ⟨s.modLine_line_self i.line fun x =>
    { x with supervision := .offHook, scan := { x.scan with tripRun := 0, runCount := 0 } }, ?_⟩
  rw [makeFinding_findingsOf, if_pos rfl]
  rfl

/-- Settles O35: the view is BURST before and after its step, so that the sample is the line's trip sense. -/
theorem tripNeedsThreeSamples : Obligations.TripNeedsThreeSamples := by
  intro s inputs i hwf hrun hi x hv hdrive hview counted
  obtain ⟨w, hw, hline, hfindings⟩ := State.samples_scanned (scannerSample_wf_iff.1 hwf).2 hi hv
  rw [State.senseStep_burst (hw.burst_iff.2 hdrive)] at hline hfindings
  have hsamples : (w.line i.line).scan.samples = min (x.scan.samples + 1) 65535 := by
    have h := congrArg Prod.snd hw.view
    rw [hview, hdrive] at h
    exact h
  have htrip : (w.line i.line).scan.tripRun = x.scan.tripRun := by
    rw [hw.tripRun, hview, hdrive]
    exact if_pos (beq_self_eq_true _)
  have hcounted : TripCounted (w.line i.line) i.trip ↔ counted := by
    rw [TripCounted, hsamples, hw.supervision]
  refine ⟨_, exec_scannerSample hrun, fun hc => ?_, fun hc hn => ?_, fun hc hn => ?_⟩
  · obtain ⟨hsense, hfound⟩ := State.tripStep_blanked_spec (mt hcounted.1 hc)
    rw [hline, hfindings, hsense, hfound]
    exact ⟨rfl, hw.supervision, hw.runCount, hw.findings⟩
  · obtain ⟨hsense, hfound⟩ := State.tripStep_counts_spec (hcounted.2 hc) (by rwa [htrip])
    rw [hline, hfindings, hsense, hfound]
    exact ⟨congrArg (· + 1) htrip, hw.supervision, hw.runCount, hw.findings⟩
  · obtain ⟨hsense, hfound⟩ := State.tripStep_trips_spec (hcounted.2 hc) (by rwa [htrip])
    rw [hline, hfindings, hsense, hfound, hw.findings]
    exact ⟨rfl, rfl, rfl, rfl⟩

/-! ### The drive view (R77) -/

/-- A burst that starts has no sample counted yet. -/
theorem ViewedLine.burst_starts (hw : ViewedLine l s w) (hb : (w.line l).scan.view = .burst)
    (hv : (s.line l).scan.view ≠ .burst) (trip : Bool) : ¬TripCounted (w.line l) trip := by
  have hsamples : (w.line l).scan.samples = _ := congrArg Prod.snd hw.view
  rw [hw.burst_iff.1 hb] at hsamples
  have hzero : (w.line l).scan.samples = 0 := by
    rw [hsamples]
    cases h : (s.line l).scan.view with
    | burst => exact absurd h hv
    | clear => rfl
    | guard => rfl
  rw [not_tripCounted_iff]
  exact .inl (by omega)

/-- The trip run of a line whose view is not BURST once it is taken: 0 where a burst has ended (R77). -/
theorem ViewedLine.tripRun_outside (hw : ViewedLine l s w) (hb : (w.line l).scan.view ≠ .burst) :
    (w.line l).scan.tripRun = if (s.line l).scan.view = .burst then 0 else (s.line l).scan.tripRun := by
  rw [hw.tripRun, Bool.eq_false_iff.2 (mt hw.burst_iff.2 hb)]
  by_cases h : (s.line l).scan.view = .burst <;> simp [h]

/-- What sensing holds where a burst starts and where the view is GUARD (R78). -/
theorem ViewedLine.senseStep_holds (hw : ViewedLine i.line s w)
    (h : (w.line i.line).scan.view = .guard ∨ (w.line i.line).scan.view = .burst ∧ (s.line i.line).scan.view ≠ .burst) :
    ((w.senseStep i).line i.line).supervision = (s.line i.line).supervision ∧
      ((w.senseStep i).line i.line).scan.runCount = (s.line i.line).scan.runCount ∧
      findingsOf (w.senseStep i) i.line = findingsOf s i.line := by
  rcases h with hg | ⟨hb, hv⟩
  · rw [State.senseStep_guard hg]
    exact ⟨hw.supervision, hw.runCount, hw.findings⟩
  · obtain ⟨hline, hfindings⟩ := State.tripStep_blanked_spec (hw.burst_starts hb hv i.trip)
    rw [State.senseStep_burst hb, hline, hfindings]
    exact ⟨hw.supervision, hw.runCount, hw.findings⟩

/-- Outside a burst sensing does not touch the trip run (R79). -/
theorem State.senseStep_tripRun (h : (w.line i.line).scan.view ≠ .burst) :
    ((w.senseStep i).line i.line).scan.tripRun = (w.line i.line).scan.tripRun := by
  cases hv : (w.line i.line).scan.view with
  | burst => exact absurd hv h
  | clear => rw [State.senseStep_clear hv]; exact (w.loopStep_follows i).2.2
  | guard => rw [State.senseStep_guard hv]

theorem exec_burstGuardEnd (hr : s.phase = .run) (hv : (s.line i.line).supervision ≠ .unscanned)
    (hg : (s.line i.line).scan.view = .guard) (hd : (s.line i.line).drive = none)
    (hn : 9 ≤ (s.line i.line).scan.samples) : exec (.burstGuardEnd i) s = .next (s.sampleLine i) :=
  congrArg Host.Outcome.next (if_pos ⟨hr, by simp [State.guardEnds, hv, hg, hd, hn]⟩)

/-- Settles O34: the view is taken by its table, and sensing then leaves it as it is. -/
theorem driveViewFollowsTheTable : Obligations.DriveViewFollowsTheTable := by
  refine ⟨fun s inputs hwf hrun => ⟨_, exec_scannerSample hrun, ?_, fun l => ?_⟩, fun s i hrun => ?_⟩
  · exact foldl_induction (P := OnlySampled s) _ inputs s rfl fun u i hu => hu.trans (.sampleLine u i)
  · have hn := (scannerSample_wf_iff.1 hwf).2
    obtain ⟨i, hi, rfl⟩ := exists_input_of_wf hwf l
    refine ⟨fun hv => (State.samples_unscanned hn hi hv).line, fun hv => ?_⟩
    obtain ⟨w, hw, hline, hfindings⟩ := State.samples_scanned hn hi hv
    have hsensed := Sensed.senseStep w i
    rw [hline, hfindings, hsensed.view, hsensed.samples]
    refine ⟨hw.view, hw.senseStep_holds, fun ⟨hb, hx⟩ => ?_, fun hb => ?_⟩
    · rw [State.senseStep_burst hb, (State.tripStep_blanked_spec (hw.burst_starts hb hx i.trip)).1]
    · rw [State.senseStep_tripRun hb, hw.tripRun_outside hb]
  · intro x hv hguard hdrive hsamples
    obtain ⟨w, hw, -, hothers, hsample⟩ := State.sampleLine_scanned hv
    obtain ⟨hclear, hzero⟩ := Prod.mk.inj (hw.guard_ends hdrive hguard hsamples)
    have hsensed := Sensed.senseStep w i
    refine ⟨_, exec_burstGuardEnd hrun hv hguard hdrive hsamples, ?_⟩
    rw [hsample]
    refine ⟨hsensed.view.trans hclear, hsensed.samples.trans hzero, ?_,
      fun k hk => ((hothers k hk).trans (hsensed.others k hk)).line⟩
    rw [State.senseStep_clear hclear, (w.loopStep_follows i).1, hw.supervision, hw.runCount]

end Sys2Proof.Machine
end

section
/-! PROOFS. What the promises about lines, queues and planes read of the part, and the changes that leave it as it was (R93,
R148, R149, R155, R166, R170, R176). -/

namespace Sys2Proof.Machine

variable {s t u : State} {l k : Fin 32}

/-! ### A line's waiting findings and its supervision (R75, R76, R79, R86) -/

/-- The findings that wait follow one another as the loop does, and lead to the supervision state. -/
def Follows (fs : List FindingKind) (v : Supervision) : Prop :=
  (∀ k, fs.getLast? = some k → v ≠ .unscanned ∧ (k = .onHook ↔ isOffHook v = false)) ∧
  fs.IsChain fun k m => k = .onHook ↔ m = .offHook ∨ m = .trip

theorem lastFinding_iff {k : FindingKind} {v : Supervision} :
    ((k = .onHook → v = .onHook ∨ v = .closing) ∧ (k ≠ .onHook → v = .offHook ∨ v = .opening)) ↔
      v ≠ .unscanned ∧ (k = .onHook ↔ isOffHook v = false) := by
  by_cases hk : k = .onHook <;> cases v <;> simp [hk, isOffHook]

theorem findingsMatch_iff : FindingsMatch s ↔ ∀ l, Follows (findingsOf s l) (s.line l).supervision := by
  simp only [FindingsMatch, Follows, lastFinding_iff]

theorem Follows.nil (v : Supervision) : Follows [] v := ⟨by simp, .nil⟩

/-- Supervision moves on without a finding. -/
theorem Follows.move {fs : List FindingKind} {v w : Supervision} (h : Follows fs v) (hw : w ≠ .unscanned)
    (he : isOffHook w = isOffHook v) : Follows fs w :=
  ⟨fun k hk => ⟨hw, he ▸ (h.1 k hk).2⟩, h.2⟩

/-- Supervision moves on with a finding, which joins the ones that wait. -/
theorem Follows.append {fs : List FindingKind} {v w : Supervision} {k : FindingKind} (h : Follows fs v)
    (hw : w ≠ .unscanned) (hk : k = .onHook ↔ isOffHook w = false) (hv : isOffHook v = false ↔ k = .offHook ∨ k = .trip) :
    Follows (fs ++ [k]) w := by
  refine ⟨fun m hm => ?_, List.isChain_append.2 ⟨h.2, .singleton k, fun m hm n hn => ?_⟩⟩
  · obtain rfl : k = m := by simpa using hm
    exact ⟨hw, hk⟩
  · obtain rfl : k = n := by simpa using hn
    exact (h.1 m hm).2.trans hv

theorem Follows.tail {fs : List FindingKind} {v : Supervision} {k : FindingKind} (h : Follows (k :: fs) v) :
    Follows fs v := by
  refine ⟨fun m hm => h.1 m ?_, h.2.tail⟩
  rw [List.getLast?_cons, hm]
  rfl

/-- A suffix of the findings still leads to the supervision state. -/
theorem Follows.suffix {fs gs : List FindingKind} {v : Supervision} (h : Follows (fs ++ gs) v) : Follows gs v := by
  induction fs with
  | nil => exact h
  | cons k fs ih => exact ih h.tail

/-- Once a finding other than an on-hook is taken, the line is still met off-hook. -/
theorem Follows.offHook_after {fs : List FindingKind} {v : Supervision} {k : FindingKind} (h : Follows (k :: fs) v)
    (hk : k ≠ .onHook) : fs ≠ [] ∨ isOffHook v = true := by
  rw [or_iff_not_imp_left, not_not]
  rintro rfl
  simpa [hk] using (h.1 k rfl).2

/-- Once an on-hook finding is taken, the line is met on-hook or has an off-hook finding due. -/
theorem Follows.onHook_after {fs : List FindingKind} {v : Supervision} (h : Follows (.onHook :: fs) v) :
    (fs = [] ∧ isOffHook v = false) ∨ fs.head? = some .offHook ∨ fs.head? = some .trip := by
  cases fs with
  | nil => exact .inl ⟨rfl, (h.1 .onHook rfl).2.1 rfl⟩
  | cons m fs => exact .inr (by simpa using (List.isChain_cons_cons.1 h.2).1)

/-- Requests and endings meet a line off-hook while a finding waits, and otherwise as the scanner has it. -/
theorem metOffHook_iff : MetOffHook s l ↔ findingsOf s l ≠ [] ∨ isOffHook (s.line l).supervision = true := by
  rw [← isOffHook_seen_iff, State.seen_eq, supervisionMet]
  cases findingsOf s l with
  | nil => simp
  | cons k fs => cases k <;> simp [isOffHook]

/-- A job that rings or waits to ring may stand on the line: it is met on-hook, or its next finding ends the job. -/
def Ringable (s : State) (l : Fin 32) : Prop := ¬MetOffHook s l ∨ OffHookWaits s l

/-! ### The promises about one line -/

/-- What is promised of a line but for its parked flag and the jobs that ring or wait to ring. -/
structure CallKept (s : State) (l : Fin 32) : Prop where
  follows : Follows (findingsOf s l) (s.line l).supervision
  awaits : ∀ r, s.revert? l = some r → r.state = .awaitHangup → MetOffHook s l
  jobOwner : ∀ j, s.job? l = some j → (s.line l).owner = some j.owner
  revertOwner : ∀ r, s.revert? l = some r → (s.line l).owner = some r.owner ∧ r.owner ≠ .m
  notParked : (s.line l).owner ≠ none → (s.line l).parked = false

/-- What is promised of a line: its findings, its work and its binding (R5, R93, R149, R155). -/
structure LineKept (s : State) (l : Fin 32) : Prop extends CallKept s l where
  rings : ∀ j, s.job? l = some j → (∀ r, s.revert? l = some r → r.state ≠ .awaitHangup) → Ringable s l
  parks : (s.line l).parked = true → MetOffHook s l

theorem lineKept_iff : (∀ l, LineKept s l) ↔ FindingsMatch s ∧ WorkMatchesTheHook s ∧ LinesBound s := by
  rw [findingsMatch_iff]
  constructor
  · exact fun h => ⟨fun l => (h l).follows, ⟨fun l => (h l).rings, fun l => (h l).awaits, fun l => (h l).parks⟩,
      fun l => (h l).jobOwner, fun l => (h l).revertOwner, fun l => (h l).notParked⟩
  · rintro ⟨hf, ⟨hrings, hawaits, hparks⟩, hjob, hrevert, hbound⟩ l
    exact ⟨⟨hf l, hawaits l, hjob l, hrevert l, hbound l⟩, hrings l, hparks l⟩

/-- A line without work. -/
theorem CallKept.idle (hf : Follows (findingsOf s l) (s.line l).supervision) (hj : s.job? l = none)
    (hr : s.revert? l = none) (hp : (s.line l).owner ≠ none → (s.line l).parked = false) : CallKept s l := by
  refine ⟨hf, ?_, ?_, ?_, hp⟩ <;> simp [hj, hr]

/-- A line without work that is not parked keeps its promises if its findings lead to its supervision. -/
theorem LineKept.idle (hf : Follows (findingsOf s l) (s.line l).supervision) (hj : s.job? l = none)
    (hr : s.revert? l = none) (hp : (s.line l).parked = false) : LineKept s l :=
  ⟨.idle hf hj hr fun _ => hp, by simp [hj], by simp [hp]⟩

/-- What the promises read of a revert record. -/
def Revert.mark (r : Revert) : Port × Bool := (r.owner, r.state == .awaitHangup)

/-- What the promises read of a line is as it was. -/
structure LineAsWas (s t : State) (l : Fin 32) : Prop where
  supervision : (t.line l).supervision = (s.line l).supervision
  owner : (t.line l).owner = (s.line l).owner
  parked : (t.line l).parked = (s.line l).parked
  findings : findingsOf t l = findingsOf s l
  job : (t.job? l).map (·.owner) = (s.job? l).map (·.owner)
  revert : (t.revert? l).map Revert.mark = (s.revert? l).map Revert.mark

theorem LineAsWas.refl (s : State) (l : Fin 32) : LineAsWas s s l := ⟨rfl, rfl, rfl, rfl, rfl, rfl⟩

theorem LineAsWas.trans (h : LineAsWas s t l) (h' : LineAsWas t u l) : LineAsWas s u l :=
  ⟨h'.supervision.trans h.supervision, h'.owner.trans h.owner, h'.parked.trans h.parked,
    h'.findings.trans h.findings, h'.job.trans h.job, h'.revert.trans h.revert⟩

theorem LineAsWas.metOffHook (h : LineAsWas s t l) : MetOffHook t l ↔ MetOffHook s l := by
  rw [metOffHook_iff, metOffHook_iff, h.findings, h.supervision]

theorem LineAsWas.ringable (h : LineAsWas s t l) : Ringable t l ↔ Ringable s l := by
  rw [Ringable, Ringable, h.metOffHook, OffHookWaits, OffHookWaits, h.findings]

theorem LineAsWas.job? (h : LineAsWas s t l) {j : Job} (hj : t.job? l = some j) :
    ∃ i, s.job? l = some i ∧ i.owner = j.owner := by
  have := h.job
  rw [hj] at this
  exact Option.map_eq_some_iff.1 this.symm

theorem LineAsWas.revert? (h : LineAsWas s t l) {r : Revert} (hr : t.revert? l = some r) :
    ∃ q, s.revert? l = some q ∧ q.owner = r.owner ∧ (q.state = .awaitHangup ↔ r.state = .awaitHangup) := by
  have := h.revert
  rw [hr] at this
  obtain ⟨q, hq, e⟩ := Option.map_eq_some_iff.1 this.symm
  simp only [Revert.mark, Prod.mk.injEq] at e
  exact ⟨q, hq, e.1, by simpa using Bool.eq_iff_iff.1 e.2⟩

theorem LineAsWas.noJob (h : LineAsWas s t l) (hj : s.job? l = none) : t.job? l = none := by
  simpa [hj] using h.job

theorem LineAsWas.noRevert (h : LineAsWas s t l) (hr : s.revert? l = none) : t.revert? l = none := by
  simpa [hr] using h.revert

theorem LineAsWas.symm (h : LineAsWas s t l) : LineAsWas t s l :=
  ⟨h.supervision.symm, h.owner.symm, h.parked.symm, h.findings.symm, h.job.symm, h.revert.symm⟩

theorem CallKept.asWas (h : CallKept s l) (e : LineAsWas s t l) : CallKept t l where
  follows := by rw [e.findings, e.supervision]; exact h.follows
  awaits r hr ha := by
    obtain ⟨q, hq, -, hs⟩ := e.revert? hr
    exact e.metOffHook.2 (h.awaits q hq (hs.2 ha))
  jobOwner j hj := by
    obtain ⟨i, hi, ho⟩ := e.job? hj
    rw [e.owner, h.jobOwner i hi, ho]
  revertOwner r hr := by
    obtain ⟨q, hq, ho, -⟩ := e.revert? hr
    rw [e.owner, ← ho]
    exact h.revertOwner q hq
  notParked ho := by rw [e.parked]; exact h.notParked (e.owner ▸ ho)

theorem LineKept.asWas (h : LineKept s l) (e : LineAsWas s t l) : LineKept t l where
  toCallKept := h.toCallKept.asWas e
  rings j hj hn := by
    obtain ⟨i, hi, -⟩ := e.job? hj
    refine e.ringable.2 (h.rings i hi fun q hq ha => ?_)
    obtain ⟨r, hr, -, hs⟩ := e.symm.revert? hq
    exact hn r hr (hs.2 ha)
  parks hp := e.metOffHook.2 (h.parks (e.parked ▸ hp))

/-! ### The promises of the whole part -/

/-- The promises about queues, planes, captures and lines together. -/
structure Promises (s : State) : Prop where
  queues : QueuesBounded s
  quiet : OutOfServiceQuiet s
  taken : TakenOverIsOut s
  missed : MissedNeedARecord s
  held : CaptureHeldInLoad s
  lines : ∀ l, LineKept s l

/-- A port that events may reach: it is in service, or a line is bound to it. -/
def Hears (s : State) (p : Port) : Prop := s.inService p = true ∨ ∃ l, (s.line l).owner = some p

/-- A queue of at most 32 events stays one, and where the port hears nothing an empty queue and a clear flag stay so. -/
def PortKept (hears : Prop) (r r' : PortRecord) : Prop :=
  (r.queue.length ≤ 32 → r'.queue.length ≤ 32) ∧
  (¬hears → r.queue = [] ∧ r.overflow = false → r'.queue = [] ∧ r'.overflow = false)

/-- Of all that the promises read only what they read of the lines in `A` may have changed, but that ports which hear something
may have received events or given them up, and a fault may have been captured. -/
structure Within (A : Fin 32 → Prop) (s t : State) : Prop where
  phase : t.phase = s.phase
  heldCapture : t.heldCapture = s.heldCapture
  takenOver : t.takenOver = s.takenOver
  service : ∀ p, t.inService p = s.inService p
  record : ∀ x, s.faultRecord = some x → t.faultRecord = some x
  missed : MissedNeedARecord s → MissedNeedARecord t
  ports : ∀ p, PortKept (Hears s p) (s.port p) (t.port p)
  owners : ∀ l, A l → ∀ p, (t.line l).owner = some p → Hears s p
  lines : ∀ l, ¬A l → LineAsWas s t l

/-- What the promises read of the lines is as it was. -/
abbrev Calm (s t : State) : Prop := Within (fun _ => False) s t

variable {A B : Fin 32 → Prop}

theorem Within.hears (h : Within A s t) {p : Port} (hp : Hears t p) : Hears s p := by
  rcases hp with hp | ⟨l, hl⟩
  · exact .inl (h.service p ▸ hp)
  · by_cases ha : A l
    · exact h.owners l ha p hl
    · exact .inr ⟨l, (h.lines l ha).owner ▸ hl⟩

theorem Within.refl (s : State) : Within A s s :=
  ⟨rfl, rfl, rfl, fun _ => rfl, fun _ => id, id, fun _ => ⟨id, fun _ => id⟩, fun l _ _ hp => .inr ⟨l, hp⟩,
    fun _ _ => .refl _ _⟩

theorem Within.trans (h : Within A s t) (h' : Within A t u) : Within A s u where
  phase := h'.phase.trans h.phase
  heldCapture := h'.heldCapture.trans h.heldCapture
  takenOver := h'.takenOver.trans h.takenOver
  service p := (h'.service p).trans (h.service p)
  record x hx := h'.record x (h.record x hx)
  missed := h'.missed ∘ h.missed
  ports p := ⟨(h'.ports p).1 ∘ (h.ports p).1, fun hp => (h'.ports p).2 (mt h.hears hp) ∘ (h.ports p).2 hp⟩
  owners l ha p hp := h.hears (h'.owners l ha p hp)
  lines l ha := (h.lines l ha).trans (h'.lines l ha)

theorem Within.mono (h : Within A s t) (hab : ∀ l, A l → B l) : Within B s t :=
  { h with
    owners := fun l _ _ hp => h.hears (.inr ⟨l, hp⟩)
    lines := fun l hl => h.lines l (mt (hab l) hl) }

theorem Within.of_calm (h : Calm s t) : Within A s t := h.mono fun _ => False.elim

/-- A walk of steps that leave the promises what they read. -/
theorem Within.foldl {α : Type} (f : State → α → State) (h : ∀ s x, Within A s (f s x)) (xs : List α) (s : State) :
    Within A s (xs.foldl f s) :=
  foldl_induction (P := Within A s) f xs s (.refl s) fun u x hu => hu.trans (h u x)

/-- The promises hold after a change if those about the lines that it may touch do. -/
theorem Promises.within (hs : Promises s) (h : Within A s t) (ha : ∀ l, A l → LineKept t l) : Promises t where
  queues p := (h.ports p).1 (hs.queues p)
  quiet p hp := by
    rw [h.service] at hp
    obtain ⟨hq, ho, hl⟩ := hs.quiet p hp
    have hdeaf : ¬Hears s p := by
      rintro (hin | ⟨l, hown⟩)
      · simp [hp] at hin
      · exact hl l hown
    obtain ⟨hq', ho'⟩ := (h.ports p).2 hdeaf ⟨hq, ho⟩
    exact ⟨hq', ho', fun l hown => hdeaf (h.hears (.inr ⟨l, hown⟩))⟩
  taken x hx := by
    obtain ⟨hp, hs⟩ := hs.taken x (h.takenOver ▸ hx)
    exact ⟨hp, (h.service _).trans hs⟩
  missed := h.missed hs.missed
  held hh := by
    obtain ⟨hp, hr⟩ := hs.held (h.heldCapture ▸ hh)
    exact ⟨h.phase.trans hp, h.record _ hr⟩
  lines l := by
    by_cases hl : A l
    · exact ha l hl
    · exact (hs.lines l).asWas (h.lines l hl)

theorem Promises.calm (hs : Promises s) (h : Calm s t) : Promises t := hs.within h fun _ => False.elim

/-- The one line that a change touches keeps its promises. -/
theorem Promises.touch (hs : Promises s) (h : Within (· = l) s t) (hl : LineKept t l) : Promises t :=
  hs.within h fun _ e => e ▸ hl

end Sys2Proof.Machine
end

section
/-! PROOFS. The operations that leave what the promises about lines, queues and planes read: posts, captures, placement passes,
sheds, bursts, turns, the feed monitor and the other monitors. -/

namespace Sys2Proof.Machine

variable {s t u : State} {l k : Fin 32} {A : Fin 32 → Prop}

/-! ### Ports and events (R155, R166, R173) -/

/-- The fields that the promises read. -/
def State.watched (s : State) :=
  (s.phase, s.heldCapture, s.takenOver, s.serviceA, s.serviceB, s.faultRecord, s.missed, s.ports, s.lines, s.findings,
    s.jobs, s.reverts)

theorem Within.of_eq (h : t.watched = s.watched) : Within A s t := by
  simp only [State.watched, Prod.mk.injEq] at h
  obtain ⟨hphase, hheld, htaken, ha, hb, hrecord, hmissed, hports, hlines, hfindings, hjobs, hreverts⟩ := h
  have hline (l : Fin 32) : t.line l = s.line l := State.line_congr hlines l
  refine ⟨hphase, hheld, htaken, State.inService_congr ha hb, by rw [hrecord]; exact fun _ => id,
    by simp only [MissedNeedARecord, hrecord, hmissed]; exact id,
    fun p => by rw [State.port_congr hports]; exact ⟨id, fun _ => id⟩,
    fun l _ p hp => .inr ⟨l, hline l ▸ hp⟩,
    fun l _ => ⟨by rw [hline], by rw [hline], by rw [hline], findingsOf_congr hfindings l, ?_, ?_⟩⟩
  · rw [State.job?, hjobs]; rfl
  · rw [State.revert?, hreverts]; rfl

/-- Only what the ports hold has changed. -/
theorem Within.of_ports (h : t = { s with ports := t.ports })
    (hp : ∀ p, PortKept (Hears s p) (s.port p) (t.port p)) : Within A s t := by
  generalize t.ports = ps at h
  subst h
  exact { Within.refl (A := A) s with
    ports := hp
    owners := fun l _ _ ho => .inr ⟨l, ho⟩
    lines := fun l _ => ⟨rfl, rfl, rfl, rfl, rfl, rfl⟩ }

theorem PortKept.received {hears : Prop} (h : hears) (r : PortRecord) (e : Event) : PortKept hears r (received r e) := by
  refine ⟨fun hq => ?_, fun hn => absurd h hn⟩
  unfold Machine.received
  split
  · simp; omega
  · exact hq

/-- Only ports that hear something have received an event. -/
theorem Within.of_posts (h : t = { s with ports := t.ports })
    (hp : ∀ p, t.port p = s.port p ∨ Hears s p ∧ ∃ e, t.port p = received (s.port p) e) : Within A s t :=
  .of_ports h fun p => by
    rcases hp p with e | ⟨hh, e, he⟩
    · rw [e]; exact ⟨id, fun _ => id⟩
    · rw [he]; exact .received hh _ e

/-- A port whose queue and flag stay as they are. -/
theorem Within.modPort (s : State) (p : Port) (g : PortRecord → PortRecord)
    (hq : (g (s.port p)).queue = (s.port p).queue) (ho : (g (s.port p)).overflow = (s.port p).overflow) :
    Within A s (s.modPort p g) :=
  .of_ports rfl fun q => by
    rw [State.modPort_port]
    split
    · next e => subst e; rw [PortKept, hq, ho]; exact ⟨id, fun _ => id⟩
    · exact ⟨id, fun _ => id⟩

theorem Within.answer (s : State) (p : Port) (tag kind : Byte) (args : List Byte) (st : Status) (payload : List Byte) :
    Within A s (s.answer p tag kind args st payload) := .modPort s p _ rfl rfl

theorem Within.enqueue {p : Port} (hp : Hears s p) (e : Event) : Within A s (s.enqueue p e) :=
  .of_posts rfl fun q => by
    by_cases h : q = p
    · subst h; exact .inr ⟨hp, e, s.enqueue_port_received _ e⟩
    · exact .inl (s.enqueue_port_other e h)

/-- Port M is always in service (R143). -/
theorem hears_portM (s : State) : Hears s .m := .inl rfl

theorem Within.postPlanes (s : State) (e : Event) : Within A s (s.postPlanes e) :=
  .of_posts (s.postPlanes_eq e) fun p => by
    rw [State.postPlanes_port]
    split
    · next h => exact .inr ⟨.inl (by simp_all), e, rfl⟩
    · exact .inl rfl

theorem Within.postAll (s : State) (e : Event) : Within A s (s.postAll e) :=
  (Within.enqueue (hears_portM s) e).trans (.postPlanes _ e)

/-- The owner of a line hears of it. -/
theorem Within.postOwner (s : State) (l : Fin 32) (e : Event) : Within A s (s.postOwner l e) :=
  .of_posts (s.postOwner_eq l e) fun p => by
    rw [State.postOwner_port]
    split
    · next h => exact .inr ⟨.inr ⟨l, h⟩, e, rfl⟩
    · exact .inl rfl

/-- A capture fills an EMPTY record, or adds to the missed kinds of a FULL one (R172, R173). -/
theorem Within.capture (s : State) (k : FaultKind) (f : Option Feed) (x : Option (Fin 32)) : Within A s (s.capture k f x) := by
  unfold State.capture
  split
  · next hn =>
    have hfill : Within A s { s with faultRecord := some { kind := k, feed := f, line := x, stamp := s.stamp } } :=
      { Within.refl (A := A) s with
        record := fun y hy => by rw [hn] at hy; cases hy
        missed := fun _ hr => by cases hr
        owners := fun l _ _ ho => .inr ⟨l, ho⟩
        lines := fun l _ => ⟨rfl, rfl, rfl, rfl, rfl, rfl⟩ }
    exact hfill.trans (.enqueue (hears_portM _) _)
  · next y hy =>
    exact { Within.refl (A := A) s with
      missed := fun _ hn => by simp [hy] at hn
      owners := fun l _ _ ho => .inr ⟨l, ho⟩
      lines := fun l _ => ⟨rfl, rfl, rfl, rfl, rfl, rfl⟩ }

theorem Within.reportEnding (s : State) (l : Fin 32) (e : Ending) : Within A s (s.reportEnding l e) := by
  unfold State.reportEnding
  split
  · exact .refl s
  · split
    · exact .refl s
    · exact .postOwner s l _

theorem Within.postProgress (s : State) (l : Fin 32) (j : Job) : Within A s (s.postProgress l j) := by
  unfold State.postProgress
  split
  · exact .postOwner s l _
  · exact .refl s

theorem Within.abandonOrigination (s : State) (l : Fin 32) : Within A s (s.abandonOrigination l) := .postPlanes s _

/-! ### Line records -/

/-- A line's record changed in its drive, its serial, its scanner's fields or its descriptor alone. -/
theorem Within.modLine (s : State) (l : Fin 32) (g : Line → Line)
    (hg : ((g (s.line l)).supervision, (g (s.line l)).owner, (g (s.line l)).parked) =
      ((s.line l).supervision, (s.line l).owner, (s.line l).parked)) : Within A s (s.modLine l g) := by
  simp only [Prod.mk.injEq] at hg
  obtain ⟨hv, ho, hp⟩ := hg
  have hline (k : Fin 32) : LineAsWas s (s.modLine l g) k := by
    by_cases h : k = l
    · subst h
      have e := s.modLine_line_self k g
      exact ⟨by rw [e, hv], by rw [e, ho], by rw [e, hp], rfl, rfl, rfl⟩
    · have e := State.modLine_line_other s g h
      exact ⟨by rw [e], by rw [e], by rw [e], rfl, rfl, rfl⟩
  exact { Within.refl (A := A) s with
    owners := fun k _ p ho => .inr ⟨k, (hline k).owner ▸ ho⟩
    lines := fun k _ => hline k }

theorem Within.cutDrive (s : State) (l : Fin 32) : Within A s (s.cutDrive l) := .modLine s l _ rfl

theorem Within.raiseOrigination (s : State) (l : Fin 32) : Within A s (s.raiseOrigination l) :=
  (Within.modLine s l (fun x => { x with serial := x.serial + 1 }) rfl).trans (.postPlanes _ _)

theorem Within.noteBurst (s : State) (f : Feed) (l : Fin 32) (y : Fin 8) : Within A s (s.noteBurst f l y) := .of_eq rfl

theorem Within.burstStep (s : State) (l : Fin 32) : Within A s (s.burstStep l) := by
  unfold State.burstStep
  split
  · exact .refl s
  · next j _ =>
    split
    · split
      · unfold State.startBurst
        split
        · exact (Within.modLine s l (fun x => { x with drive := some _ }) rfl).trans (.noteBurst _ _ l j.party)
        · exact .refl s
      · exact .refl s
    · exact .cutDrive s l

/-! ### Jobs and reverts -/

/-- A change of a job that keeps its line and its owner. -/
def KeepsOwner (g : Job → Job) : Prop := ∀ j, (g j).line = j.line ∧ (g j).owner = j.owner

theorem State.mapJobs_job? (s : State) (g : Job → Job) (hg : ∀ j, (g j).line = j.line) (l : Fin 32) :
    ({ s with jobs := s.jobs.map g } : State).job? l = (s.job? l).map g := by
  simp only [State.job?, List.find?_map, Function.comp_def, hg]

theorem State.mapReverts_revert? (s : State) (h : Revert → Revert) (hh : ∀ r, (h r).line = r.line) (l : Fin 32) :
    ({ s with reverts := s.reverts.map h } : State).revert? l = (s.revert? l).map h := by
  simp only [State.revert?, List.find?_map, Function.comp_def, hh]

theorem Within.mapJobs (s : State) {g : Job → Job} (hg : KeepsOwner g) : Within A s { s with jobs := s.jobs.map g } :=
  { Within.refl (A := A) s with
    owners := fun l _ _ ho => .inr ⟨l, ho⟩
    lines := fun l _ => {
      supervision := rfl, owner := rfl, parked := rfl, findings := rfl, revert := rfl
      job := by
        rw [State.mapJobs_job? s g fun j => (hg j).1, Option.map_map]
        exact congrArg (Option.map · _) (funext fun j => (hg j).2) } }

theorem Within.mapReverts (s : State) {h : Revert → Revert} (hh : ∀ r, (h r).line = r.line ∧ (h r).mark = r.mark) :
    Within A s { s with reverts := s.reverts.map h } :=
  { Within.refl (A := A) s with
    owners := fun l _ _ ho => .inr ⟨l, ho⟩
    lines := fun l _ => {
      supervision := rfl, owner := rfl, parked := rfl, findings := rfl, job := rfl
      revert := by
        rw [State.mapReverts_revert? s h fun r => (hh r).1, Option.map_map]
        exact congrArg (Option.map · _) (funext fun r => (hh r).2) } }

theorem Within.modJob (s : State) (l : Fin 32) {g : Job → Job} (hg : KeepsOwner g) : Within A s (s.modJob l g) :=
  .mapJobs s fun j => by
    split
    · exact hg j
    · exact ⟨rfl, rfl⟩

theorem Within.modRevert (s : State) (l : Fin 32) {h : Revert → Revert}
    (hh : ∀ r, (h r).line = r.line ∧ (h r).mark = r.mark) : Within A s (s.modRevert l h) :=
  .mapReverts s fun r => by
    split
    · exact hh r
    · exact ⟨rfl, rfl⟩

theorem KeepsOwner.selectTarget (s : State) : KeepsOwner s.selectTarget := fun j => by
  rcases s.selectTarget_cases j with ⟨-, e⟩ | ⟨h, -, ⟨f, -, e⟩ | e⟩ <;> rw [e] <;> exact ⟨rfl, rfl⟩

theorem KeepsOwner.takeStation (s : State) (y : Fin 8) : KeepsOwner (s.takeStation y) := fun j => by
  rcases s.takeStation_cases y j with ⟨-, e⟩ | ⟨i, -, v, f, -, e⟩ <;> rw [e] <;> exact ⟨rfl, rfl⟩

theorem KeepsOwner.turnJob (s : State) (r : Revert) : KeepsOwner (s.turnJob r) := fun j =>
  KeepsOwner.takeStation s _ { j with turn := some (flipTurn (j.turn.getD .called)) }

theorem KeepsOwner.recoverJob (f : Feed) : KeepsOwner (recoverJob f) := fun j => by
  rcases recoverJob_cases f j with e | ⟨-, ⟨-, e⟩ | ⟨-, e⟩ | ⟨-, e⟩⟩ <;> rw [e] <;> exact ⟨rfl, rfl⟩

/-! ### Passes and sheds (R38, R41, R42, R54) -/

theorem Within.tryPlace (s : State) (l : Fin 32) : Within A s (s.tryPlace l) := by
  rcases s.tryPlace_cases l with e | ⟨-, -, -, -, ph, -, -, -, -, -, -, -, e⟩
  · rw [e]; exact .refl s
  · rw [e]; exact .modJob s l fun _ => ⟨rfl, rfl⟩

theorem Within.pass (s : State) : Within A s s.pass := s.pass_induction (.refl s) fun u l hu => hu.trans (.tryPlace u l)

theorem Within.passIf (s : State) (b : Bool) : Within A s (s.passIf b) := by
  cases b
  · exact .refl s
  · exact .pass s

theorem Within.shed (s : State) (l : Fin 32) : Within A s (s.shed l) :=
  (Within.modJob s l (g := s.shedJob) fun _ => ⟨rfl, rfl⟩).trans (.cutDrive _ l)

theorem Within.shedLoop (s : State) (f : Feed) (n : Nat) : Within A s (s.shedLoop f n) := by
  induction n generalizing s with
  | zero => exact .refl s
  | succ n ih =>
    unfold State.shedLoop
    split
    · exact .refl s
    · next j _ => exact (Within.shed s j.line).trans (ih _)

theorem Within.levelShed (s : State) (old : Level) : Within A s (s.levelShed old) := by
  have hall (u : State) : Within A u u.shedAll := .foldl _ (fun v f => .shedLoop v f _) _ u
  unfold State.levelShed
  split
  · exact (Within.foldl State.shed .shed _ s).trans (hall _)
  · exact guarded (.refl s) (hall s)

theorem Within.writeFeed (s : State) (f : Feed) (n c : Nat) (b : Bool) : Within A s (s.writeFeed f n c b) := by
  have hstore (c : Nat) : Within A s (s.storeFeed f n c b) := .of_eq rfl
  rw [State.writeFeed_eq]
  refine Within.trans ?_ (.pass _)
  unfold State.storeAndShed
  split
  · exact (hstore _).trans (.shedLoop _ f _)
  · exact hstore _

/-! ### Turns and returns (R103, R123) -/

theorem flipRevert_awaits_iff (v : RevertState) : (flipRevert v == .awaitHangup) = (v == .awaitHangup) := by
  cases v <;> rfl

theorem Within.takeTurn (s : State) (l : Fin 32) : Within A s (s.takeTurn l) := by
  unfold State.takeTurn
  split
  · exact .refl s
  · next r _ =>
    exact ((Within.cutDrive s l).trans (.modJob _ l (.turnJob s r))).trans
      (.modRevert _ l fun r => ⟨rfl, congrArg (r.owner, ·) (flipRevert_awaits_iff r.state)⟩)

theorem Within.returnHome (s : State) (l : Fin 32) : Within A s (s.returnHome l) :=
  (Within.cutDrive s l).trans (.modJob _ l fun _ => ⟨rfl, rfl⟩)

/-! ### The monitors (R118 to R122, R134, R135, R139, R140) -/

theorem Within.moveOff (s : State) (l : Fin 32) : Within A s (s.moveOff l) :=
  (Within.modJob s l (.selectTarget s)).trans (.cutDrive _ l)

theorem Within.modFeed (s : State) (f : Feed) (g : FeedRecord → FeedRecord) : Within A s (s.modFeed f g) := .of_eq rfl

theorem Within.failFeed (s : State) (f : Feed) : Within A s (s.failFeed f) := by
  unfold State.failFeed
  exact (((Within.modFeed s f _).trans (.foldl _ .moveOff _ _)).trans (.passIf _ _)).trans
    ((Within.postAll _ _).trans (.capture _ _ _ _))

theorem Within.recoverFeed (s : State) (f : Feed) : Within A s (s.recoverFeed f) := by
  have hgood : Within A s (s.feedGood f) := .modFeed s f _
  have hhome : Within A s (if f = .fb then s.feedGood f
      else { s.feedGood f with jobs := (s.feedGood f).jobs.map (recoverJob f) }) := by
    split
    · exact hgood
    · exact hgood.trans (.mapJobs _ (.recoverJob f))
  exact hhome.trans ((Within.pass _).trans (.postAll _ _))

theorem Within.sampleFeed (s : State) (i : FeedInput) : Within A s (s.sampleFeed i) := by
  unfold State.sampleFeed
  dsimp only
  split
  · exact .modFeed s _ _
  · split
    · exact .modFeed s _ _
    · exact .failFeed s _
  · exact .modFeed s _ _
  · split
    · exact .modFeed s _ _
    · exact .recoverFeed s _

theorem Within.changeLevel (s : State) (v : Level) : Within A s (s.changeLevel v) := by
  have hlevel : Within A s ({ s with battery := { s.battery.clearRun with level := v } }.scheduleLevel s.battery.level) := by
    have hset : Within A s { s with battery := { s.battery.clearRun with level := v } } := .of_eq rfl
    rw [State.scheduleLevel_eq]
    exact hset.trans ((Within.levelShed _ _).trans (.pass _))
  have htold (e : Event) := hlevel.trans (.postAll _ e)
  unfold State.changeLevel
  dsimp only
  split
  · exact (htold _).trans (.capture _ _ _ _)
  · exact htold _

theorem Within.applyReading (s : State) (n : Nat) : Within A s (s.applyReading n) := by
  unfold State.applyReading
  dsimp only
  split
  · exact .of_eq rfl
  · split
    · exact .changeLevel s _
    · exact .of_eq rfl

theorem Within.setReference (s : State) (r : Reference) : Within A s { s with reference := r } := .of_eq rfl

theorem Within.loseReference (s : State) : Within A s s.loseReference :=
  (Within.setReference s _).trans ((Within.postAll _ _).trans (.capture _ _ _ _))

theorem Within.restoreReference (s : State) : Within A s s.restoreReference := (Within.setReference s _).trans (.postAll _ _)

theorem Within.edgeWhileLost (s : State) (gap : Nat) : Within A s (s.edgeWhileLost gap) := by
  unfold State.edgeWhileLost
  split
  · exact .setReference s _
  · split
    · exact .setReference s _
    · exact .restoreReference s

theorem Within.takeEdge (s : State) (gap : Nat) : Within A s (s.takeEdge gap) := by
  unfold State.takeEdge
  split
  · split
    · exact .refl s
    · exact (Within.loseReference s).trans (.edgeWhileLost _ gap)
  · exact .edgeWhileLost s gap

theorem Within.completeSave (s : State) (v : SaveInFlight) (r : SaveReport) : Within A s (s.completeSave v r) := by
  have hend : Within A s { s with image := v.final r, save := none } := .of_eq rfl
  unfold State.completeSave
  dsimp only
  split
  · exact hend.trans (.enqueue (hears_portM _) _)
  · exact (hend.trans (.enqueue (hears_portM _) _)).trans (.capture _ _ _ _)

/-- A byte received changes the receiver or the buffer of its port (R157, R160). -/
theorem Within.receiveByte (s : State) (p : Port) (b : Byte) (v : Bool) : Within A s (s.receiveByte p b v) := by
  have hplace (u : State) (body : List Byte) : Within A u (u.placeFrame p body) := by
    refine .modPort u p _ ?_ ?_ <;> split <;> rfl
  unfold State.receiveByte
  split
  · exact .refl s
  · split
    · exact .modPort s p _ rfl rfl
    · dsimp only
      split
      · exact .modPort s p _ rfl rfl
      · exact (Within.modPort s p _ rfl rfl).trans (hplace _ _)

end Sys2Proof.Machine
end

section
/-! PROOFS. The operations that touch one line and keep its promises: the endings, the expiry, the samples of the scanner and the
findings that are handed on (R60, R71, R74 to R88, R99, R109). -/

namespace Sys2Proof.Machine

variable {s t u : State} {l k : Fin 32} {A : Fin 32 → Prop}

/-! ### Changes of one line -/

/-- Only the records of lines in `A`, their findings and their work have changed, and those bound are bound to ports that
hear. -/
theorem Within.onLines
    (h : t = { s with lines := t.lines, findings := t.findings, jobs := t.jobs, reverts := t.reverts })
    (ho : ∀ l, A l → ∀ p, (t.line l).owner = some p → Hears s p) (hk : ∀ k, ¬A k → LineAsWas s t k) : Within A s t := by
  generalize t.lines = ls, t.findings = fs, t.jobs = js, t.reverts = rs at h
  subst h
  exact { Within.refl (A := A) s with
    owners := ho
    lines := hk }

theorem LineAsWas.of_stays (h : LineStays k s t) (hj : t.jobs = s.jobs) (hr : t.reverts = s.reverts) :
    LineAsWas s t k where
  supervision := by rw [h.line]
  owner := by rw [h.line]
  parked := by rw [h.line]
  findings := h.findings
  job := by rw [State.job?, hj]; rfl
  revert := by rw [State.revert?, hr]; rfl

/-- Only the record of one line and its findings have changed. -/
theorem Within.onRecord (h : t = { s with lines := t.lines, findings := t.findings })
    (ho : ∀ p, (t.line l).owner = some p → Hears s p) (hk : ∀ k, k ≠ l → LineStays k s t) : Within (· = l) s t :=
  .onLines (by rw [h]) (fun _ e => e ▸ ho) fun k hkl => .of_stays (hk k hkl) (by rw [h]) (by rw [h])

theorem Within.setLine (s : State) (l : Fin 32) {g : Line → Line}
    (ho : ∀ p, (g (s.line l)).owner = some p → Hears s p) : Within (· = l) s (s.modLine l g) :=
  .onRecord rfl (by rw [State.modLine_line_self]; exact ho) fun _ hk => .modLine s hk g

theorem LineStays.takeFinding (s : State) (h : k ≠ l) : LineStays k s (s.takeFinding l) := by
  refine ⟨rfl, ?_⟩
  simp only [findingsOf, State.takeFinding]
  generalize s.findings = fs
  induction fs with
  | nil => rfl
  | cons x xs ih =>
    by_cases hx : x.line = l
    · simp [hx, h.symm]
    · simp [hx, List.filter_cons, apply_ite (List.map Finding.kind), ih]

theorem Within.takeFinding (s : State) (l : Fin 32) : Within (· = l) s (s.takeFinding l) :=
  .onRecord rfl (fun _ hp => .inr ⟨l, hp⟩) fun _ hk => .takeFinding s hk

/-! ### Endings (R71, R109) -/

/-- The work of a line goes, and its binding where it is released. -/
theorem Within.freeLine (s : State) (l : Fin 32) (b : Bool) :
    Within (· = l) s (((s.releaseIf b l).dropJob l).dropRevert l) := by
  refine .onLines ?_ (fun k e p hp => ?_) fun k hk => ?_
  · cases b <;> rfl
  · subst e
    cases b
    · exact .inr ⟨k, hp⟩
    · have hfree : ((s.releaseBinding k).line k).owner = none := by rw [State.releaseBinding, State.modLine_line_self]
      exact absurd (hfree.symm.trans hp) nofun
  · have hkeeps : KeepsLine k s (((s.releaseIf b l).dropJob l).dropRevert l) :=
      ((KeepsLine.releaseIf s (Ne.symm hk) b).trans (.dropJob _ (Ne.symm hk))).trans (.dropRevert _ (Ne.symm hk))
    exact ⟨by rw [hkeeps.line], by rw [hkeeps.line], by rw [hkeeps.line], findingsOf_congr (s.releaseIf_findings b l) k,
      by rw [hkeeps.job], by rw [hkeeps.revert]⟩

theorem Within.endCall (s : State) (l : Fin 32) (e : Ending) (b : Bool) : Within (· = l) s (s.endCall l e b) :=
  ((Within.cutDrive s l).trans (.reportEnding _ l e)).trans (.freeLine _ l b)

/-- Once its work has ended a line keeps its promises. -/
theorem LineKept.endCall (h : CallKept s l) (hp : (s.line l).parked = true → MetOffHook s l) (e : Ending) (b : Bool) :
    LineKept (s.endCall l e b) l := by
  have hline := s.endCall_line l l e b
  have hfindings := findingsOf_congr (s.endCall_findings l e b) l
  have hjob := s.endCall_job? l e b
  have hrevert := State.revert?_eq_none_of (s.endCall_idle l e b).2
  have hv : ((s.endCall l e b).line l).supervision = (s.line l).supervision := by
    rw [hline, if_pos rfl]; split <;> rfl
  have hmet : MetOffHook (s.endCall l e b) l ↔ MetOffHook s l := by rw [metOffHook_iff, metOffHook_iff, hfindings, hv]
  refine ⟨⟨by rw [hfindings, hv]; exact h.follows, by simp [hrevert], by simp [hjob], by simp [hrevert], ?_⟩,
    by simp [hjob], ?_⟩
  · rw [hline, if_pos rfl]
    split
    · exact fun _ => rfl
    · exact h.notParked
  · rw [hmet, hline, if_pos rfl]
    split
    · simp
    · exact hp

theorem Within.endCallAndPass (s : State) (l : Fin 32) (e : Ending) (b : Bool) :
    Within (· = l) s (s.endCallAndPass l e b) := (Within.endCall s l e b).trans (.passIf _ _)

theorem LineKept.endCallAndPass (h : CallKept s l) (hp : (s.line l).parked = true → MetOffHook s l) (e : Ending)
    (b : Bool) : LineKept (s.endCallAndPass l e b) l :=
  (LineKept.endCall h hp e b).asWas ((Within.passIf (A := fun _ => False) _ _).lines l id)

theorem Promises.endCall (hs : Promises s) (l : Fin 32) (e : Ending) (b : Bool) : Promises (s.endCall l e b) :=
  hs.touch (.endCall s l e b) (.endCall (hs.lines l).toCallKept (hs.lines l).parks e b)

theorem Promises.endCallAndPass (hs : Promises s) (l : Fin 32) (e : Ending) (b : Bool) :
    Promises (s.endCallAndPass l e b) := (hs.endCall l e b).calm (.passIf _ _)

/-! ### The expiry (R59 to R61, R98) -/

theorem Promises.frameEnd (hs : Promises s) (l : Fin 32) : Promises (s.frameEnd l).1 := by
  have hcount : Promises (s.modJob l fun j => { j with framesRung := j.framesRung + 1 }) :=
    hs.calm (.modJob s l fun _ => ⟨rfl, rfl⟩)
  unfold State.frameEnd
  dsimp only
  split
  · exact hcount
  · next j _ =>
    have htold := hcount.calm (.postProgress _ l j)
    split
    · exact hcount.endCall l _ _
    · split
      · exact htold.calm (.takeTurn _ l)
      · split
        · exact htold.calm (.returnHome _ l)
        · exact htold.calm (.burstStep _ l)

theorem Promises.tickJob {a : State × Bool} (ha : Promises a.1) (l : Fin 32) : Promises (State.tickJob a l).1 := by
  unfold State.tickJob
  dsimp only
  split
  · exact ha
  · split
    · exact ha
    · split
      · exact (ha.calm (.modJob _ l (g := fun j => { j with state := .ringing }) fun _ => ⟨rfl, rfl⟩)).calm (.burstStep _ l)
      · split
        · exact ha.frameEnd l
        · split
          · exact ha.calm (.burstStep _ l)
          · exact ha

theorem Promises.advanceWait (hs : Promises s) (l : Fin 32) (j : Job) : Promises (s.advanceWait l j) := by
  have hcount : Promises (s.modJob l fun j => { j with waitTimer := j.waitTimer + 1 }) :=
    hs.calm (.modJob s l fun _ => ⟨rfl, rfl⟩)
  unfold State.advanceWait
  dsimp only
  split
  · exact hcount.endCall l _ _
  · exact hcount

theorem Promises.advanceHangup (hs : Promises s) (l : Fin 32) (r : Revert) : Promises (s.advanceHangup l r) := by
  have hcount : Promises (s.modRevert l fun r => { r with hangupTimer := r.hangupTimer + 1 }) :=
    hs.calm (.modRevert s l fun _ => ⟨rfl, rfl⟩)
  unfold State.advanceHangup
  dsimp only
  split
  · exact hcount.endCall l _ _
  · exact hcount

theorem Promises.tickTimer (hs : Promises s) (waiters : List (Fin 32)) (l : Fin 32) :
    Promises (s.tickTimer waiters l) := by
  unfold State.tickTimer
  split
  · exact hs
  · next j _ =>
    split
    · split
      · exact guarded hs (hs.advanceHangup l _)
      · exact hs
    · exact guarded hs (hs.advanceWait l j)
    · exact guarded hs (hs.advanceWait l j)
    · exact hs

theorem Promises.expiry (hs : Promises s) : Promises s.expiry := by
  have hadvance : Promises s.advance := hs.calm (.of_eq rfl)
  have hjobs : Promises s.advance.tickJobs.1 :=
    foldl_induction (P := fun a : State × Bool => Promises a.1) State.tickJob _ (s.advance, false) hadvance
      fun _ l ha => ha.tickJob l
  exact (foldl_induction _ _ _ hjobs fun _ l hu => Promises.tickTimer hu s.waiters l).calm (.passIf _ _)

/-! ### One sample of a line (R74 to R79, R87, R88) -/

theorem Promises.takeRelayFault (hs : Promises s) (l : Fin 32) : Promises (s.takeRelayFault l) := by
  have hfaulted : Promises (s.lineFaulted l) := by
    have h : Promises (s.modLine l faultedLine) := hs.calm (.modLine s l _ rfl)
    exact guarded h (h.calm (.abandonOrigination _ l))
  rw [State.takeRelayFault_eq]
  exact (guarded hfaulted (hfaulted.endCallAndPass l _ _)).calm (.capture _ _ _ _)

theorem Within.modScan (s : State) (l : Fin 32) (g : Scan → Scan) : Within A s (s.modScan l g) := .modLine s l _ rfl

theorem Promises.readbackStep (hs : Promises s) (i : LineInput) : Promises (s.readbackStep i) := by
  unfold State.readbackStep
  dsimp only
  split
  · exact hs
  · split
    · exact hs.calm (.modScan s _ _)
    · split
      · exact hs.calm (.modScan s _ _)
      · exact (hs.calm (.modScan s _ _)).takeRelayFault _

/-- How a sample moves supervision, with the finding that it makes: within on-hook or off-hook without one, and otherwise to
where the finding leads (R75, R76, R79). -/
def Moves (v w : Supervision) (new : Option FindingKind) : Prop :=
  w ≠ .unscanned ∧ (new = none → isOffHook w = isOffHook v) ∧
  ∀ k, new = some k → (k = .onHook ↔ isOffHook w = false) ∧ (isOffHook v = false ↔ k = .offHook ∨ k = .trip)

theorem loopTable_moves {v : Supervision} (hv : v ≠ .unscanned) (n : Nat) (closed : Bool) :
    Moves v (loopTable v n closed).1 (loopTable v n closed).2.2 := by
  cases v <;> cases closed
  case unscanned.false | unscanned.true => exact absurd rfl hv
  case closing.true | opening.false | opening.true =>
    simp only [loopTable]
    split <;> simp [Moves, isOffHook]
  all_goals simp [loopTable, Moves, isOffHook]

/-- A sample that moves supervision on, with or without a finding, keeps the promises of its line. -/
theorem LineKept.moved {w : Supervision} {new : Option FindingKind} (h : LineKept s l)
    (hm : Moves (s.line l).supervision w new) (hline : ∃ c, t.line l = { s.line l with supervision := w, scan := c })
    (hf : findingsOf t l = findingsOf s l ++ new.toList) (hj : t.jobs = s.jobs) (hr : t.reverts = s.reverts) :
    LineKept t l := by
  obtain ⟨c, hline⟩ := hline
  obtain ⟨hscanned, hnone, hsome⟩ := hm
  have hjob : t.job? l = s.job? l := by rw [State.job?, hj]; rfl
  have hrevert : t.revert? l = s.revert? l := by rw [State.revert?, hr]; rfl
  have hv : (t.line l).supervision = w := by rw [hline]
  have hfollows : Follows (findingsOf t l) w := by
    rw [hf]
    cases new with
    | none => simpa using h.follows.move hscanned (hnone rfl)
    | some k => exact h.follows.append hscanned (hsome k rfl).1 (hsome k rfl).2
  have hmet : MetOffHook s l → MetOffHook t l := by
    rw [metOffHook_iff, metOffHook_iff, hf, hv]
    cases new with
    | none => simp [hnone rfl]
    | some k => simp
  have hringable : Ringable s l → Ringable t l := by
    simp only [Ringable, metOffHook_iff, OffHookWaits, hf, hv]
    cases findingsOf s l with
    | cons k fs => simp
    | nil =>
      cases new with
      | none => simp [hnone rfl]
      | some k => simpa using (hsome k rfl).2.1
  refine ⟨⟨hv.symm ▸ hfollows, ?_, ?_, ?_, ?_⟩, ?_, ?_⟩
  · rw [hrevert]; exact fun r hr ha => hmet (h.awaits r hr ha)
  · rw [hjob, hline]; exact h.jobOwner
  · rw [hrevert, hline]; exact h.revertOwner
  · rw [hline]; exact h.notParked
  · rw [hjob, hrevert]; exact fun j hj hn => hringable (h.rings j hj hn)
  · rw [hline]; exact fun hp => hmet (h.parks hp)

/-- A failed closure clears the parked flag, and with it the findings that a parked line still had (R75, R85). -/
theorem Promises.failClosure (hs : Promises s) (hv : (s.line l).supervision = .closing) : Promises (s.failClosure l) := by
  have hline := s.failClosure_line l l
  rw [if_pos rfl] at hline
  have hfindings := s.failClosure_findingsOf l
  have hrest : s.failClosure l =
      { s with lines := (s.failClosure l).lines, findings := (s.failClosure l).findings } := by
    unfold State.failClosure
    dsimp only
    split <;> rfl
  have hjobs : (s.failClosure l).jobs = s.jobs := by rw [hrest]
  have hreverts : (s.failClosure l).reverts = s.reverts := by rw [hrest]
  have hmoves : Moves (s.line l).supervision .onHook none := by simp [Moves, hv, isOffHook]
  refine hs.touch (.onRecord hrest (fun p hp => .inr ⟨l, by rw [hline] at hp; exact hp⟩) fun k hk => .failClosure s hk) ?_
  cases hparked : (s.line l).parked with
  | false =>
    rw [hparked, if_neg Bool.false_ne_true] at hfindings
    exact (hs.lines l).moved hmoves ⟨_, by rw [hline, ← hparked]⟩ (by simpa using hfindings) hjobs hreverts
  | true =>
    rw [hparked, if_pos rfl] at hfindings
    have hfree : (s.line l).owner = none := by
      by_contra ho
      exact Bool.false_ne_true (((hs.lines l).notParked ho).symm.trans hparked)
    refine .idle ?_ ?_ ?_ (by rw [hline])
    · have hsplit := List.takeWhile_append_dropWhile (p := (· != FindingKind.onHook)) (l := findingsOf s l)
      have hkept : Follows ((findingsOf s l).dropWhile (· != .onHook)) (s.line l).supervision := by
        have := (hs.lines l).follows
        rw [← hsplit] at this
        exact this.suffix
      rw [hfindings, hline]
      refine Follows.move ?_ (by simp) (hmoves.2.1 rfl)
      cases h : (findingsOf s l).dropWhile (· != .onHook) with
      | nil => exact .nil _
      | cons k fs => rw [h] at hkept; exact hkept.tail
    · cases hj : (s.failClosure l).job? l with
      | none => rfl
      | some j =>
        rw [State.job?, hjobs] at hj
        exact absurd ((hs.lines l).jobOwner j hj) (by simp [hfree])
    · cases hr : (s.failClosure l).revert? l with
      | none => rfl
      | some r =>
        rw [State.revert?, hreverts] at hr
        exact absurd ((hs.lines l).revertOwner r hr).1 (by simp [hfree])

theorem Promises.loopStep (hs : Promises s) {i : LineInput} (hv : (s.line i.line).supervision ≠ .unscanned) :
    Promises (s.loopStep i) := by
  cases h : closureFails (s.line i.line) i.closed with
  | true =>
    rw [State.loopStep_fails h]
    exact hs.failClosure (closureFails_iff.1 h).1
  | false =>
    rw [State.loopStep_row h]
    have hmoves := loopTable_moves hv (s.line i.line).scan.runCount i.closed
    generalize loopTable (s.line i.line).supervision (s.line i.line).scan.runCount i.closed = row at hmoves
    have hline := s.takeLoopRow_line i.line row
    have hrest : s.takeLoopRow i.line row =
        { s with lines := (s.takeLoopRow i.line row).lines, findings := (s.takeLoopRow i.line row).findings } := by
      unfold State.takeLoopRow
      split <;> rfl
    exact hs.touch
      (.onRecord hrest (fun p hp => .inr ⟨i.line, by rw [hline] at hp; exact hp⟩) fun k hk => .takeLoopRow s hk row)
      ((hs.lines i.line).moved hmoves ⟨_, hline⟩ (s.takeLoopRow_findingsOf _ _) (by rw [hrest]) (by rw [hrest]))

theorem Promises.tripStep (hs : Promises s) {i : LineInput} (hv : (s.line i.line).supervision ≠ .unscanned) :
    Promises (s.tripStep i) := by
  by_cases hc : TripCounted (s.line i.line) i.trip
  · rcases Nat.lt_or_ge (s.line i.line).scan.tripRun 2 with hn | hn
    · rw [State.tripStep_counts hc hn]
      exact hs.calm (.modScan s _ _)
    · rw [State.tripStep_trips hc hn]
      obtain ⟨-, hoff, hopening, -⟩ := hc
      have hmoves : Moves (s.line i.line).supervision .offHook (some .trip) := by
        cases h : (s.line i.line).supervision <;> simp_all [Moves, isOffHook]
      refine hs.touch (.onRecord rfl (fun p hp => .inr ⟨i.line, ?_⟩) fun k hk =>
        (LineStays.modLine s hk _).trans (.makeFinding _ hk _))
        ((hs.lines i.line).moved hmoves
          ⟨_, (State.line_congr (State.makeFinding_lines _ _ _) _).trans (s.modLine_line_self _ _)⟩ ?_ rfl rfl)
      · rw [State.line_congr (State.makeFinding_lines _ _ _), State.modLine_line_self] at hp
        exact hp
      · rw [makeFinding_findingsOf, if_pos rfl]
        rfl
  · rw [State.tripStep_blanked hc]
    exact hs.calm (.modScan s _ _)

theorem Promises.sampleLine (hs : Promises s) (i : LineInput) : Promises (s.sampleLine i) := by
  unfold State.sampleLine
  split
  · exact hs
  · next hv =>
    have hviewed := ViewedLine.of_readBack (ReadBack.readbackStep (s.viewStep i.line) i)
    have hkept : Promises ((s.viewStep i.line).readbackStep i) := (hs.calm (.modScan s _ _)).readbackStep i
    have hscanned := hviewed.supervision.trans_ne hv
    unfold State.senseStep
    split
    · exact hkept.tripStep hscanned
    · exact hkept.loopStep hscanned
    · exact hkept

/-! ### Findings handed on (R80 to R83, R86, R99, R100, R107) -/

/-- A line whose oldest finding is taken, if a revert that still awaits the hang-up is then still met off-hook. -/
theorem CallKept.take (h : CallKept s l) {k : FindingKind} (hk : s.nextFinding l = some k)
    (ha : ∀ r, s.revert? l = some r → r.state = .awaitHangup → MetOffHook (s.takeFinding l) l) :
    CallKept (s.takeFinding l) l where
  follows := by
    have := h.follows
    rw [findingsOf_eq_cons hk] at this
    exact this.tail
  awaits := ha
  jobOwner := h.jobOwner
  revertOwner := h.revertOwner
  notParked := h.notParked

/-- A line is still met off-hook once a finding other than an on-hook is taken. -/
theorem CallKept.metOffHook_taken (h : CallKept s l) {k : FindingKind} (hk : s.nextFinding l = some k)
    (hne : k ≠ .onHook) : MetOffHook (s.takeFinding l) l := by
  have := h.follows
  rw [findingsOf_eq_cons hk] at this
  exact metOffHook_iff.2 (this.offHook_after hne)

/-- A job may ring on a line whose on-hook finding is taken. -/
theorem CallKept.ringable_taken (h : CallKept s l) (hk : s.nextFinding l = some .onHook) :
    Ringable (s.takeFinding l) l := by
  have := h.follows
  rw [findingsOf_eq_cons hk] at this
  rw [Ringable, metOffHook_iff]
  rcases this.onHook_after with ⟨he, hv⟩ | hd
  · refine .inl ?_
    have hv' : isOffHook ((s.takeFinding l).line l).supervision = false := hv
    simp [he, hv']
  · exact .inr hd

/-- No job rings or waits to ring on a line whose next finding is an on-hook or a flash. -/
theorem LineKept.no_ringing_job (h : LineKept s l) {k : FindingKind} (hk : s.nextFinding l = some k)
    (hne : k ≠ .offHook ∧ k ≠ .trip) {j : Job} (hj : s.job? l = some j)
    (hn : ∀ r, s.revert? l = some r → r.state ≠ .awaitHangup) : False := by
  have hf := findingsOf_eq_cons hk
  rcases h.rings j hj hn with hm | hw
  · exact hm (metOffHook_iff.2 (.inl (by simp [hf])))
  · simp [OffHookWaits, hf, hne] at hw

/-- A line with no job that rings or waits to ring. -/
theorem LineKept.of_call (h : CallKept s l) (hp : (s.line l).parked = true → MetOffHook s l)
    (hn : ∀ j, s.job? l = some j → ∃ r, s.revert? l = some r ∧ r.state = .awaitHangup) : LineKept s l :=
  ⟨h, fun j hj hne => by
    obtain ⟨r, hr, ha⟩ := hn j hj
    exact absurd ha (hne r hr), hp⟩

/-- An off-hook finding or a trip finding is handed on (R63, R64, R80, R81, R100, R107). -/
theorem Promises.takeOffHook (hs : Promises s) (hpaired : RevertsPaired s) {k : FindingKind}
    (hk : s.nextFinding l = some k) (hne : k ≠ .onHook) : Promises ((s.takeFinding l).takeOffHook l) := by
  have hmet := (hs.lines l).metOffHook_taken hk hne
  have hcall := (hs.lines l).toCallKept.take hk fun _ _ _ => hmet
  have hended (e : Ending) : Promises ((s.takeFinding l).endCallAndPass l e false) :=
    hs.touch ((Within.takeFinding s l).trans (.endCallAndPass _ l e false)) (.endCallAndPass hcall (fun _ => hmet) e false)
  have htaken (hn : ∀ j, s.job? l = some j → ∃ r, s.revert? l = some r ∧ r.state = .awaitHangup) :
      Promises (s.takeFinding l) := hs.touch (.takeFinding s l) (.of_call hcall (fun _ => hmet) hn)
  unfold State.takeOffHook
  split
  · next r hr =>
    split
    · next ha => exact htaken fun _ _ => ⟨r, hr, ha⟩
    · exact hended _
  · next hr =>
    have hr' : s.revert? l = none := hr
    split
    · next j hj =>
      have hj' : s.job? l = some j := hj
      split
      · exact hended _
      · next hreserved =>
        obtain ⟨r, hrev, -⟩ := ((hpaired l).2 j hj').1 hreserved
        exact absurd hrev (by simp [hr'])
      · exact hended _
    · next hj =>
      have hj' : s.job? l = none := hj
      have hidle := htaken fun j h => absurd h (by simp [hj'])
      unfold State.reportOffHook
      split
      · exact hidle.calm (.postOwner _ l _)
      · exact guarded hidle (hidle.calm (.raiseOrigination _ l))

/-- A revert whose caller has hung up awaits nothing. -/
theorem ringCalled_not_awaiting {r : Revert}
    (h : (s.modRevert l fun r => { r with state := .ringingCalled }).revert? l = some r) : r.state ≠ .awaitHangup := by
  rw [s.modRevert_revert? l l (fun r => { r with state := .ringingCalled }) fun _ => rfl, if_pos rfl] at h
  obtain ⟨q, -, rfl⟩ := Option.map_eq_some_iff.1 h
  exact nofun

/-- The caller has hung up, so that the revert rings and awaits nothing (R99). -/
theorem CallKept.ringCalled (h : CallKept s l) :
    CallKept (s.modRevert l fun r => { r with state := .ringingCalled }) l where
  follows := h.follows
  awaits r hr ha := absurd ha (ringCalled_not_awaiting hr)
  jobOwner := h.jobOwner
  revertOwner r hr := by
    rw [s.modRevert_revert? l l (fun r => { r with state := .ringingCalled }) fun _ => rfl, if_pos rfl] at hr
    obtain ⟨q, hq, rfl⟩ := Option.map_eq_some_iff.1 hr
    exact h.revertOwner q hq
  notParked := h.notParked

theorem Within.setRevert (s : State) (l : Fin 32) {g : Revert → Revert} (hg : ∀ r, (g r).line = r.line) :
    Within (· = l) s (s.modRevert l g) := by
  refine .onLines rfl (fun k _ _ hp => .inr ⟨k, hp⟩) fun k hk => ?_
  have hkeeps := KeepsLine.modRevert s (Ne.symm hk) hg
  exact ⟨rfl, rfl, rfl, rfl, rfl, by rw [hkeeps.revert]⟩

/-- The parked flag of a line that a job may ring on is cleared. -/
theorem LineKept.unparked (h : CallKept s l) (hr : Ringable s l) :
    LineKept (s.modLine l fun x => { x with parked := false }) l := by
  have hline : (s.modLine l fun x => { x with parked := false }).line l = { s.line l with parked := false } :=
    s.modLine_line_self l _
  have hmet : MetOffHook (s.modLine l fun x => { x with parked := false }) l ↔ MetOffHook s l := by
    rw [metOffHook_iff, metOffHook_iff, hline]; rfl
  exact ⟨⟨by rw [hline]; exact h.follows, fun r hr ha => hmet.2 (h.awaits r hr ha), by rw [hline]; exact h.jobOwner,
    by rw [hline]; exact h.revertOwner, by simp [hline]⟩, fun _ _ _ => by rw [Ringable, hmet]; exact hr, by simp [hline]⟩

theorem Within.unpark (s : State) (l : Fin 32) : Within (· = l) s (s.modLine l fun x => { x with parked := false }) :=
  .setLine s l fun _ hp => .inr ⟨l, hp⟩

theorem Within.tellOnHook (s : State) (l : Fin 32) : Within A s (s.tellOnHook l) := by
  unfold State.tellOnHook
  split
  · exact .postOwner s l _
  · exact guarded (P := Within A s) (.refl s) (.abandonOrigination s l)

/-- The on-hook finding of a line without a revert is told, and the line is free (R82). -/
theorem Promises.tellOnHook (hs : Promises s) (hk : s.nextFinding l = some .onHook) (hr : s.revert? l = none) :
    Promises (((s.takeFinding l).tellOnHook l).hangUp l) := by
  have hline := hs.lines l
  have hjob : s.job? l = none := by
    cases hj : s.job? l with
    | none => rfl
    | some j => exact (hline.no_ringing_job hk (by simp) hj (by simp [hr])).elim
  have htold : LineAsWas (s.takeFinding l) ((s.takeFinding l).tellOnHook l) l :=
    (Within.tellOnHook (A := fun _ => False) _ l).lines l id
  have hcall := (hline.toCallKept.take hk (by simp [hr])).asWas htold
  refine hs.touch (((Within.takeFinding s l).trans (.tellOnHook _ l)).trans (.setLine _ l nofun)) ?_
  refine .idle ?_ (htold.noJob hjob) (htold.noRevert hr) ?_ <;> rw [State.hangUp, State.modLine_line_self]
  exact hcall.follows

/-- The on-hook finding of a line with a revert starts the ringing that it awaits, and is else ignored (R82, R99, R100). -/
theorem Promises.takeOnHook (hs : Promises s) (hk : s.nextFinding l = some .onHook) :
    Promises ((s.takeFinding l).takeOnHook l) := by
  have hringable := (hs.lines l).ringable_taken hk
  have hdone {v : State} (hw : Within (· = l) s v) (hc : CallKept v l) (hr : Ringable v l) :
      Promises (v.modLine l fun x => { x with parked := false }) := hs.touch (hw.trans (.unpark v l)) (.unparked hc hr)
  cases hr : s.revert? l with
  | none =>
    have hnone : (s.takeFinding l).hasRevert l = false := congrArg Option.isSome hr
    rw [State.takeOnHook_reported hnone]
    exact hs.tellOnHook hk hr
  | some r =>
    have hr' : (s.takeFinding l).revert? l = some r := hr
    unfold State.takeOnHook
    simp only [hr']
    split
    · have hrings := (hs.lines l).toCallKept.ringCalled.take hk fun q hq ha => absurd ha (ringCalled_not_awaiting hq)
      have hcalm : Calm ((s.takeFinding l).modRevert l fun r => { r with state := .ringingCalled })
          ((s.takeFinding l).startRevertRinging l r) :=
        ((Within.modJob _ l (.takeStation _ r.called)).trans (.pass _)).trans (.postOwner _ l _)
      have hsame := hcalm.lines l id
      exact hdone
        (((Within.takeFinding s l).trans
          (.setRevert _ l (g := fun r => { r with state := .ringingCalled }) fun _ => rfl)).trans (.of_calm hcalm))
        (hrings.asWas hsame) (hsame.ringable.2 hringable)
    · next ha =>
      have hcall := (hs.lines l).toCallKept.take hk fun q hq ha' =>
        absurd ha' (Option.some.inj (hr.symm.trans hq) ▸ ha)
      exact hdone (.takeFinding s l) hcall hringable

/-- A flash finding is handed on (R83). -/
theorem Promises.takeFlash (hs : Promises s) {n : Nat} (hk : s.nextFinding l = some (.flash n)) :
    Promises ((s.takeFinding l).takeFlash l n) := by
  have hmet := (hs.lines l).metOffHook_taken hk (by simp)
  have hcall := (hs.lines l).toCallKept.take hk fun _ _ _ => hmet
  have htaken : Promises (s.takeFinding l) :=
    hs.touch (.takeFinding s l)
      ⟨hcall, fun j hj hn => ((hs.lines l).no_ringing_job hk (by simp) hj hn).elim, fun _ => hmet⟩
  unfold State.takeFlash
  split
  · exact htaken
  · exact htaken.calm (.postOwner _ l _)

end Sys2Proof.Machine
end

section
/-! PROOFS. The requests keep the promises about lines, queues and planes (R12, R19, R52, R96, R144, R146 to R153, R168). -/

namespace Sys2Proof.Machine

variable {s t u : State} {l k : Fin 32} {A : Fin 32 → Prop} {p q : Port}

/-! ### Taking a request (R144, R161) -/

/-- Port control refuses, or hands on a request that is permitted, from a port in service or for one that is taken out of
service too. -/
theorem portControl_reply {c : Kind} {h : State → Reply} (hs : Promises s)
    (hh : permitted c p = true → s.inService p = true ∨ takenOutOfService c = true → Promises (h s).state) :
    Promises (portControl c p h s).state := by
  unfold portControl
  split
  · exact hs
  · next hperm =>
    split
    · exact hs
    · next hserv => exact hh (by simpa using hperm) (by simpa [or_iff_not_imp_left] using hserv)

theorem Promises.takeFrame {tag code : Byte} {args : List Byte} {h : State → Reply} (hs : Promises s)
    (hh : s.phase = .run → Promises (h s).state) : Promises (takeFrame p tag code args h s) := by
  rcases takeFrame_cases p tag code args h s with e | ⟨-, e⟩ | ⟨hr, e⟩ <;> rw [e]
  · exact hs
  · exact hs.calm (.answer s p _ _ _ _ _)
  · exact (hh hr).calm (.answer _ p _ _ _ _ _)

theorem Promises.request {c : Kind} {tag : Byte} {args : List Byte} {h : State → Reply} (hs : Promises s)
    (hh : s.phase = .run → permitted c p = true → s.inService p = true ∨ takenOutOfService c = true →
      Promises (h s).state) : Promises (request c p tag args h s) :=
  hs.takeFrame fun hr => portControl_reply hs (hh hr)

/-- A request whose reply leaves what the promises read. -/
theorem Promises.calmRequest {c : Kind} {tag : Byte} {args : List Byte} {h : State → Reply} (hs : Promises s)
    (hh : Calm s (h s).state) : Promises (Machine.request c p tag args h s) := hs.request fun _ _ _ => hs.calm hh

/-! ### Plane service (R146, R148, R153) -/

theorem State.setService_inService (s : State) (hp : isPlane p = true) (v : Service) (q : Port) :
    (s.setService p v).inService q = if q = p then v == .inService else s.inService q := by
  cases p with
  | m => cases hp
  | a => cases q <;> rfl
  | b => cases q <;> rfl

theorem State.flush_port (s : State) (p q : Port) :
    (s.flush p).port q = if q = p then { s.port p with queue := [], overflow := false } else s.port q :=
  s.modPort_port p q _

/-- A plane's queue is emptied as its service is set, which leaves no line to a plane that goes out of service, and the mark of a
TAKEOVER names a plane that is out of service then. -/
theorem Promises.setPlane (hs : Promises s) (hp : isPlane p = true) {v : Service}
    (hfree : v = .outOfService → ∀ l, (s.line l).owner ≠ some p) {m : Option TakenOver}
    (hm : ∀ x, m = some x →
      isPlane x.plane = true ∧ (if x.plane = p then v = .outOfService else s.inService x.plane = false)) :
    Promises { (s.setService p v).flush p with takenOver := m } := by
  obtain ⟨t, ht⟩ : ∃ t : State, t = { (s.setService p v).flush p with takenOver := m } := ⟨_, rfl⟩
  have hport (q : Port) : t.port q = if q = p then { s.port p with queue := [], overflow := false } else s.port q := by
    have hsame (q : Port) : (s.setService p v).port q = s.port q := State.port_congr (s.setService_ports p v) q
    rw [← hsame, ← hsame, ← State.flush_port, ht]
    rfl
  have hserv (q : Port) : t.inService q = if q = p then v == .inService else s.inService q := by
    rw [← State.setService_inService s hp, ht]
    cases q <;> rfl
  have hline (l : Fin 32) : t.line l = s.line l := State.line_congr (by rw [ht]; exact s.setService_lines p v) l
  have hwas (l : Fin 32) : LineAsWas s t l :=
    .of_stays ⟨hline l, findingsOf_congr (by rw [ht]; exact s.setService_findings p v) l⟩
      (by rw [ht]; exact s.setService_jobs p v) (by rw [ht]; exact s.setService_reverts p v)
  have hphase : t.phase = s.phase := by rw [ht]; exact s.setService_phase p v
  have hrecord : t.faultRecord = s.faultRecord := by rw [ht]; exact s.setService_faultRecord p v
  have hmissed : t.missed = s.missed := by rw [ht]; exact s.setService_missed p v
  have hheld : t.heldCapture = s.heldCapture := by rw [ht]; exact s.setService_heldCapture p v
  have htaken : t.takenOver = m := by rw [ht]
  rw [← ht]
  refine ⟨fun q => ?_, fun q hq => ?_, fun x hx => ?_, ?_, ?_, fun l => (hs.lines l).asWas (hwas l)⟩
  · rw [hport]
    split
    · simp
    · exact hs.queues q
  · rw [hserv] at hq
    rw [hport]
    simp only [hline]
    split
    · next e =>
      subst e
      exact ⟨rfl, rfl, hfree (by cases v <;> simp_all)⟩
    · next e =>
      rw [if_neg e] at hq
      exact hs.quiet q hq
  · obtain ⟨hplane, hout⟩ := hm x (htaken ▸ hx)
    refine ⟨hplane, ?_⟩
    rw [hserv]
    split at hout
    · next e => rw [if_pos e, hout]; rfl
    · next e => rw [if_neg e, hout]
  · rw [MissedNeedARecord, hrecord, hmissed]; exact hs.missed
  · rw [CaptureHeldInLoad, hheld, hphase, hrecord]; exact hs.held

theorem Promises.openReply (hs : Promises s) (hp : isPlane p = true) : Promises (openReply p s).state := by
  have hopened : Promises (((s.flush p).setService p .inService).endTakenOver p) := by
    have e : ((s.flush p).setService p .inService).endTakenOver p =
        { (s.setService p .inService).flush p with takenOver := s.takenOver.filter fun x => x.plane != p } := by
      cases p <;> rfl
    rw [e]
    refine hs.setPlane (v := .inService) hp nofun fun x hx => ?_
    obtain ⟨hx, hne⟩ := Option.filter_eq_some_iff.1 hx
    obtain ⟨hplane, hout⟩ := hs.taken x hx
    rw [if_neg (by simpa using hne)]
    exact ⟨hplane, hout⟩
  have hserv : (((s.flush p).setService p .inService).endTakenOver p).inService p = true := by
    cases p <;> rfl
  unfold Machine.openReply
  dsimp only
  generalize ((s.flush p).setService p .inService).endTakenOver p = t at hopened hserv ⊢
  refine (foldl_induction (P := fun u => Promises u ∧ u.inService p = true) _ _ t ⟨hopened, hserv⟩ ?_).1
  exact fun u l ⟨hu, hin⟩ => ⟨hu.calm (.enqueue (.inl hin) _), hin⟩

/-- A plane with no line bound to it owns none (R148). -/
theorem State.boundCount_eq_zero_iff : s.boundCount p = 0 ↔ ∀ l, (s.line l).owner ≠ some p := by
  simp [State.boundCount, allLines]

theorem Promises.closeReply (hs : Promises s) (hp : isPlane p = true) : Promises (closeReply p s).state := by
  unfold Machine.closeReply
  split
  · exact hs
  · next hb =>
    have e : (s.setService p .outOfService).flush p =
        { (s.setService p .outOfService).flush p with takenOver := s.takenOver } := by cases p <;> rfl
    dsimp only
    rw [e]
    refine hs.setPlane hp (fun _ => State.boundCount_eq_zero_iff.1 (not_not.1 hb)) fun x hx => ?_
    obtain ⟨hplane, hout⟩ := hs.taken x hx
    refine ⟨hplane, ?_⟩
    split
    · rfl
    · exact hout

/-! ### A TAKEOVER (R114, R153) -/

/-- A walk that binds lines to a port. -/
theorem State.bindLines_line (ls : List (Fin 32)) (s : State) (p : Port) (k : Fin 32) :
    (ls.foldl (fun u l => u.modLine l fun x => { x with owner := some p }) s).line k =
      if k ∈ ls then { s.line k with owner := some p } else s.line k := by
  induction ls generalizing s with
  | nil => rfl
  | cons l ls ih =>
    rw [List.foldl_cons, ih, State.modLine_line]
    by_cases e : k = l
    · subst e
      simp
    · simp [e]

theorem State.bindLines_eq (ls : List (Fin 32)) (s : State) (p : Port) :
    ls.foldl (fun u l => u.modLine l fun x => { x with owner := some p }) s =
      { s with lines := (ls.foldl (fun u l => u.modLine l fun x => { x with owner := some p }) s).lines } :=
  foldl_induction (P := fun t => t = { s with lines := t.lines }) _ ls s rfl fun t l ht => by
    rw [ht]; rfl

/-- The lines bound to a plane. -/
def State.linesOf (s : State) (q : Port) : List (Fin 32) := allLines.filter fun l => (s.line l).owner == some q

theorem State.mem_linesOf : l ∈ s.linesOf q ↔ (s.line l).owner = some q := by
  simp [State.linesOf, allLines]

/-- The lines moved keep all but their owner, and so do their jobs and reverts (R114, R153). -/
theorem State.moveLines_eq (s : State) (q p : Port) :
    s.moveLines q p =
      { s with
        lines := ((s.linesOf q).foldl (fun u l => u.modLine l fun x => { x with owner := some p }) s).lines
        jobs := s.jobs.map fun j => if (s.linesOf q).contains j.line then { j with owner := p } else j
        reverts := s.reverts.map fun r => if (s.linesOf q).contains r.line then { r with owner := p } else r } := by
  obtain ⟨t, ht⟩ : ∃ t, t = (s.linesOf q).foldl (fun u l => u.modLine l fun x => { x with owner := some p }) s := ⟨_, rfl⟩
  have hrest : t = { s with lines := t.lines } := by rw [ht]; exact State.bindLines_eq _ s p
  have hmoved : s.moveLines q p =
      { t with
        jobs := t.jobs.map fun j => if (s.linesOf q).contains j.line then { j with owner := p } else j
        reverts := t.reverts.map fun r => if (s.linesOf q).contains r.line then { r with owner := p } else r } := by
    rw [ht]; rfl
  rw [hmoved, ← ht, hrest]

/-- A TAKEOVER's mark does not bear on what it moves. -/
theorem State.moveLines_takenOver (s : State) (q p : Port) (m : Option TakenOver) :
    ({ s with takenOver := m } : State).moveLines q p = { s.moveLines q p with takenOver := m } := by
  have hbind := List.foldl_hom (fun u : State => { u with takenOver := m })
    (g₁ := fun u l => u.modLine l fun x => { x with owner := some p })
    (g₂ := fun u l => u.modLine l fun x => { x with owner := some p }) (l := s.linesOf q) (init := s) fun _ _ => rfl
  simp only [State.moveLines_eq]
  congr 1
  exact (congrArg State.lines hbind :)

theorem State.moveLines_line (s : State) (q p : Port) (k : Fin 32) :
    (s.moveLines q p).line k = if (s.line k).owner = some q then { s.line k with owner := some p } else s.line k := by
  have h := State.bindLines_line (s.linesOf q) s p k
  simp only [State.mem_linesOf] at h
  rw [← h]
  exact State.line_congr (by rw [State.moveLines_eq]) k

theorem State.moveLines_job? (s : State) (q p : Port) (k : Fin 32) :
    (s.moveLines q p).job? k =
      (s.job? k).map fun j => if (s.line k).owner = some q then { j with owner := p } else j := by
  have h := State.mapJobs_job? s (fun j => if (s.linesOf q).contains j.line then { j with owner := p } else j)
    (fun j => by split <;> rfl) k
  rw [State.moveLines_eq]
  refine h.trans ?_
  cases hj : s.job? k with
  | none => rfl
  | some j =>
    have hmem : (s.linesOf q).contains j.line = true ↔ (s.line k).owner = some q := by
      rw [List.contains_iff_mem, State.mem_linesOf, State.job?_line hj]
    simp only [Option.map_some, hmem]

theorem State.moveLines_revert? (s : State) (q p : Port) (k : Fin 32) :
    (s.moveLines q p).revert? k =
      (s.revert? k).map fun r => if (s.line k).owner = some q then { r with owner := p } else r := by
  have h := State.mapReverts_revert? s (fun r => if (s.linesOf q).contains r.line then { r with owner := p } else r)
    (fun r => by split <;> rfl) k
  rw [State.moveLines_eq]
  refine h.trans ?_
  cases hr : s.revert? k with
  | none => rfl
  | some r =>
    have hmem : (s.linesOf q).contains r.line = true ↔ (s.line k).owner = some q := by
      rw [List.contains_iff_mem, State.mem_linesOf, State.revert?_line hr]
    simp only [Option.map_some, hmem]

theorem Promises.moveLines (hs : Promises s) (q : Port) (hp : p ≠ .m) (hserv : s.inService p = true) :
    Promises (s.moveLines q p) := by
  have hfindings (k : Fin 32) : findingsOf (s.moveLines q p) k = findingsOf s k :=
    findingsOf_congr (by rw [State.moveLines_eq]) k
  refine hs.within (A := fun l => (s.line l).owner = some q)
    (.onLines (by rw [State.moveLines_eq]) (fun l hl r hr => ?_) fun l hl => ?_) fun l hl => ?_
  · rw [s.moveLines_line, if_pos hl] at hr
    exact .inl (Option.some.inj hr ▸ hserv)
  · refine ⟨?_, ?_, ?_, hfindings l, ?_, ?_⟩ <;>
      simp [s.moveLines_line, s.moveLines_job?, s.moveLines_revert?, hl]
  · have hl' : (s.line l).owner = some q := hl
    have hline := s.moveLines_line q p l
    have hjob := s.moveLines_job? q p l
    have hrevert := s.moveLines_revert? q p l
    simp only [hl', if_true] at hline hjob hrevert
    have hmet : MetOffHook (s.moveLines q p) l ↔ MetOffHook s l := by
      rw [metOffHook_iff, metOffHook_iff, hfindings, hline]
    have hring : Ringable (s.moveLines q p) l ↔ Ringable s l := by
      rw [Ringable, Ringable, hmet, OffHookWaits, OffHookWaits, hfindings]
    obtain ⟨⟨hfollows, hawaits, -, -, hpark⟩, hrings, hparks⟩ := hs.lines l
    rw [← hmet] at hawaits hparks
    rw [← hring] at hrings
    refine ⟨⟨?_, ?_, ?_, ?_, ?_⟩, ?_, ?_⟩
    · rw [hfindings, hline]; exact hfollows
    · rw [hrevert]; simpa using hawaits
    · rw [hjob, hline]; simp
    · rw [hrevert, hline]; simp [hp]
    · rw [hline]; exact fun _ => hpark (by simp [hl'])
    · rw [hjob, hrevert]; simpa using hrings
    · rw [hline]; exact hparks

theorem Promises.takeoverReply (hs : Promises s) (hp : isPlane p = true) (hserv : s.inService p = true) :
    Promises (takeoverReply p s).state := by
  obtain ⟨hother, hplane, hm⟩ : otherPlane p ≠ p ∧ isPlane (otherPlane p) = true ∧ p ≠ .m := by
    cases p <;> simp_all [otherPlane, isPlane]
  have e : (Machine.takeoverReply p s).state =
      { ((s.moveLines (otherPlane p) p).setService (otherPlane p) .outOfService).flush (otherPlane p) with
        takenOver := (s.noteTakeover (otherPlane p)).takenOver } := by
    have hmoved : (s.noteTakeover (otherPlane p)).moveLines (otherPlane p) p =
        { s.moveLines (otherPlane p) p with takenOver := (s.noteTakeover (otherPlane p)).takenOver } := by
      conv_lhs => rw [State.noteTakeover_eq, State.moveLines_takenOver]
    have hreply : (Machine.takeoverReply p s).state =
        (((s.noteTakeover (otherPlane p)).moveLines (otherPlane p) p).flush (otherPlane p)).setService (otherPlane p)
          .outOfService := rfl
    rw [hreply, hmoved]
    cases p <;> rfl
  rw [e]
  have hin (r : Port) : (s.moveLines (otherPlane p) p).inService r = s.inService r :=
    State.inService_congr (by rw [State.moveLines_eq]) (by rw [State.moveLines_eq]) r
  refine (hs.moveLines (otherPlane p) hm hserv).setPlane hplane (fun _ l hl => ?_) fun x hx => ?_
  · rw [s.moveLines_line] at hl
    split at hl
    · exact hother (Option.some.inj hl).symm
    · next h => exact h hl
  · rw [State.noteTakeover_takenOver] at hx
    rw [hin]
    split at hx
    · obtain rfl := Option.some.inj hx
      exact ⟨hplane, if_pos rfl ▸ rfl⟩
    · obtain ⟨hxp, hout⟩ := hs.taken x hx
      refine ⟨hxp, ?_⟩
      split
      · rfl
      · exact hout

end Sys2Proof.Machine
end

section
/-! PROOFS. The requests that bind a line, give it work or end it keep the promises (R52, R67, R68, R96, R111, R151, R152). -/

namespace Sys2Proof.Machine

variable {s t u : State} {l k : Fin 32} {A : Fin 32 → Prop} {p q : Port}

/-- A request that only a port in service may make. -/
theorem Promises.servedRequest {c : Kind} (hc : takenOutOfService c = false) {tag : Byte} {args : List Byte}
    {h : State → Reply} (hs : Promises s)
    (hh : permitted c p = true → s.inService p = true → Promises (h s).state) :
    Promises (Machine.request c p tag args h s) :=
  hs.request fun _ hp hv => hh hp (hv.resolve_right (by simp [hc]))

/-! ### CLAIM and RELEASE (R151, R152) -/

/-- An unbound line has neither job nor revert (R93, R149). -/
theorem LineKept.noWork (h : LineKept s l) (ho : (s.line l).owner = none) : s.job? l = none ∧ s.revert? l = none :=
  ⟨Option.eq_none_iff_forall_ne_some.2 fun j hj => by simpa [ho] using h.jobOwner j hj,
    Option.eq_none_iff_forall_ne_some.2 fun r hr => by simpa [ho] using (h.revertOwner r hr).1⟩

theorem Promises.claim (hs : Promises s) (hserv : s.inService p = true) (ho : (s.line l).owner = none)
    (hp : (s.line l).parked = false) : Promises (s.modLine l fun y => { y with owner := some p }) := by
  obtain ⟨hj, hr⟩ := (hs.lines l).noWork ho
  have hkept : LineKept (s.modLine l fun y => { y with owner := some p }) l :=
    .idle (by rw [State.modLine_line_self]; exact (hs.lines l).follows) hj hr (by rw [State.modLine_line_self]; exact hp)
  exact hs.touch (.setLine s l fun q hq => .inl (Option.some.inj hq ▸ hserv)) hkept

theorem Promises.claimReply (hs : Promises s) (hserv : s.inService p = true) (line serial : Byte) :
    Promises (claimReply p line serial s).state := by
  unfold Machine.claimReply
  split
  · exact hs
  dsimp only
  split
  · exact hs
  split
  · exact hs
  split
  · split <;> exact hs
  · next ho =>
    split
    · exact hs
    · next hfree => exact hs.claim hserv ho (by simpa using mt Or.inl hfree)

/-- An idle line that is given up is parked if it is met off-hook. -/
theorem Promises.release (hs : Promises s) (hj : s.job? l = none) (hr : s.revert? l = none) :
    Promises (s.modLine l fun y => { y with owner := none, parked := isOffHook (s.seen l) }) := by
  obtain ⟨u, hu⟩ : ∃ u, u = s.modLine l fun y => { y with owner := none, parked := isOffHook (s.seen l) } := ⟨_, rfl⟩
  have hline : u.line l = { s.line l with owner := none, parked := isOffHook (s.seen l) } := by
    rw [hu, State.modLine_line_self]
  have hfindings : findingsOf u l = findingsOf s l := by rw [hu]; rfl
  have hmet : MetOffHook u l ↔ MetOffHook s l := by rw [metOffHook_iff, metOffHook_iff, hfindings, hline]
  have hjob : u.job? l = none := by rw [hu]; exact hj
  have hcall : CallKept u l :=
    .idle (by rw [hfindings, hline]; exact (hs.lines l).follows) hjob (by rw [hu]; exact hr) (by simp [hline])
  have hwithin : Within (· = l) s u := by rw [hu]; exact .setLine s l nofun
  rw [← hu]
  exact hs.touch hwithin ⟨hcall, by simp [hjob], by rw [hmet, ← isOffHook_seen_iff, hline]; exact id⟩

theorem Promises.releaseReply (hs : Promises s) (line : Byte) : Promises (releaseReply p line s).state := by
  unfold Machine.releaseReply
  split
  · exact hs
  dsimp only
  split
  · exact hs
  split
  · exact hs
  split
  · exact hs
  · next hbusy =>
    simp only [not_or, Bool.not_eq_true] at hbusy
    exact hs.release (State.job?_eq_none_of hbusy.1) (State.revert?_eq_none_of hbusy.2)

/-! ### RING (R52) -/

/-- An accepted RING finds a line that is free or the port's, met on-hook (R51). -/
theorem ringRefusal_none_met {y : Fin 8} (h : ringRefusal p l y s = none) :
    ((s.line l).owner = none ∨ (s.line l).owner = some p) ∧ ¬MetOffHook s l := by
  obtain ⟨i, hi⟩ := Option.isSome_iff_exists.1 (ringRefusal_none h).1
  rw [ringRefusal_eq hi] at h
  split at h; · cases h
  split at h; · cases h
  next howner =>
  split at h; · cases h
  split at h; · cases h
  next hmet =>
  exact ⟨by simpa [or_iff_not_imp_left] using howner, by simp [MetOffHook, not_not.1 hmet]⟩

/-- A job added for another line is not this line's. -/
theorem State.addJob_job?_other (s : State) {j : Job} (hk : j.line ≠ k) : (s.addJob j).job? k = s.job? k := by
  simp [State.job?, State.addJob, List.find?_append, hk]

theorem State.addRevert_revert?_other (s : State) {r : Revert} (hk : r.line ≠ k) :
    (s.addRevert r).revert? k = s.revert? k := by
  simp [State.revert?, State.addRevert, List.find?_append, hk]

/-- A revert added for a line that had none is the line's. -/
theorem State.addRevert_revert?_self {r : Revert} (h : s.hasRevert r.line = false) :
    (s.addRevert r).revert? r.line = some r := by
  have hnone : s.reverts.find? (fun i => i.line == r.line) = none := State.revert?_eq_none_of h
  simp [State.revert?, State.addRevert, List.find?_append, hnone]

/-- The job that a RING creates stands on a line that is bound to its port and met on-hook. -/
theorem Promises.ringBound (hs : Promises s) (hserv : s.inService p = true)
    (ho : (s.line l).owner = none ∨ (s.line l).owner = some p) (hmet : ¬MetOffHook s l) {j : Job} (hl : j.line = l)
    (hp : j.owner = p) (hj : s.hasJob l = false) (hr : s.hasRevert l = false) : Promises (s.ringBound p l j) := by
  have hrest := s.ringBound_eq p l j
  have hline := State.ringBound_line (j := j) ho
  have hline' : (s.ringBound p l j).line l = { s.line l with owner := some p } := (hline l).trans (if_pos rfl)
  have hfindings (k : Fin 32) : findingsOf (s.ringBound p l j) k = findingsOf s k := findingsOf_congr (by rw [hrest]) k
  have hrevert (k : Fin 32) : (s.ringBound p l j).revert? k = s.revert? k := by rw [hrest]; rfl
  have hjob (k : Fin 32) : (s.ringBound p l j).job? k = (s.addJob j).job? k := by rw [hrest]; rfl
  have hself : (s.ringBound p l j).job? l = some j := by
    rw [hjob, ← hl]; exact State.addJob_job?_self (hl ▸ hj)
  have hnone : (s.ringBound p l j).revert? l = none := (hrevert l).trans (State.revert?_eq_none_of hr)
  have hmet' : ¬MetOffHook (s.ringBound p l j) l := by
    rw [metOffHook_iff, hfindings, hline']; exact mt metOffHook_iff.2 hmet
  refine hs.touch (l := l) (.onLines (by rw [hrest]) (fun k hk q hq => ?_) fun k hk => ?_) ⟨⟨?_, ?_, ?_, ?_, ?_⟩, ?_, ?_⟩
  · subst hk
    rw [hline'] at hq
    exact .inl (Option.some.inj hq ▸ hserv)
  · have hstays : (s.ringBound p l j).line k = s.line k := (hline k).trans (if_neg hk)
    exact ⟨by rw [hstays], by rw [hstays], by rw [hstays], hfindings k,
      by rw [hjob, State.addJob_job?_other s (by simpa [hl] using Ne.symm hk)], by rw [hrevert]⟩
  · rw [hfindings, hline']; exact (hs.lines l).follows
  · simp [hnone]
  · simp [hself, hline', hp]
  · simp [hnone]
  · have hparked := mt (hs.lines l).parks hmet
    simpa [hline'] using hparked
  · exact fun _ _ _ => .inl hmet'
  · rw [hline']; exact fun h => absurd ((hs.lines l).parks h) hmet

theorem Promises.ringReply (hs : Promises s) (hserv : s.inService p = true) (line party cls limit progress : Byte) :
    Promises (ringReply p line party cls limit progress s).state := by
  unfold Machine.ringReply
  split
  · next l y notice _ _ _ =>
    split
    · exact hs
    · exact hs
    · split
      · exact hs
      · next hr =>
        obtain ⟨ho, hmet⟩ := ringRefusal_none_met hr
        obtain ⟨hi, hjob, hrevert, -⟩ := ringRefusal_none hr
        obtain ⟨i, hi⟩ := Option.isSome_iff_exists.1 hi
        dsimp only
        rw [State.createRing_eq hi]
        refine Promises.calm ?_ (.pass _)
        obtain ⟨j, hj⟩ : ∃ j, j = s.stationedJob l y i (ringJob p l y (ringClass p cls)
          (clampLimit (s.line l).desc.frameLimit limit) notice) := ⟨_, rfl⟩
        have hjl : j.line = l := by rw [hj]; rfl
        have hjo : j.owner = p := by rw [hj]; rfl
        rw [← hj]
        exact hs.ringBound hserv ho hmet hjl hjo hjob hrevert
  · exact hs

/-! ### The cancels and PROMOTE (R67, R68, R111) -/

theorem Promises.cancelRingReply (hs : Promises s) (line : Byte) : Promises (cancelRingReply p line s).state := by
  unfold Machine.cancelRingReply
  split
  · exact hs
  split
  · exact hs
  split
  · exact hs
  split
  · exact hs
  · exact hs.endCallAndPass _ _ _

theorem Promises.cancelRevertReply (hs : Promises s) (line : Byte) : Promises (cancelRevertReply p line s).state := by
  unfold Machine.cancelRevertReply
  split
  · exact hs
  split
  · exact hs
  split
  · exact hs
  · exact hs.endCallAndPass _ _ _

theorem Within.promoteReply (s : State) (line cls : Byte) : Within A s (promoteReply p line cls s).state := by
  unfold Machine.promoteReply
  split
  · exact .refl s
  split
  · exact .refl s
  split
  · exact .refl s
  split
  · exact (Within.modJob s _ (g := fun j => { j with cls := max j.cls (planeClass cls) }) fun _ => ⟨rfl, rfl⟩).trans
      (.pass _)
  · exact .refl s

/-! ### REVERT (R96, R97) -/

/-- An accepted REVERT finds the port's own line off-hook, unless it is unscanned (R95). -/
theorem revertRefusal_none_met {x y : Fin 8} (h : revertRefusal p l x y s = none) :
    (s.line l).owner = some p ∧ s.seen l ≠ .onHook ∧ s.seen l ≠ .closing := by
  unfold revertRefusal at h
  split at h
  · split at h; · cases h
    next q hq =>
    split at h; · cases h
    next hp =>
    split at h; · cases h
    split at h; · cases h
    next hv => exact ⟨hq.trans (congrArg some (not_not.1 hp)), not_or.1 hv⟩
  · cases h

/-- A scanned line that is not met on-hook is met off-hook. -/
theorem metOffHook_of_seen (hv : (s.line l).supervision ≠ .unscanned) (ho : s.seen l ≠ .onHook)
    (hc : s.seen l ≠ .closing) : MetOffHook s l := by
  rw [metOffHook_iff, or_iff_not_imp_left, not_not]
  intro hf
  rw [State.seen_eq, supervisionMet, hf] at ho hc
  revert hv ho hc
  cases (s.line l).supervision <;> simp [isOffHook]

theorem Promises.createRevert (hs : Promises s) (hm : p ≠ .m) (ho : (s.line l).owner = some p) (hmet : MetOffHook s l)
    (hj : s.hasJob l = false) (hr : s.hasRevert l = false) (x y : Fin 8) (b : Bool) (n : Nat) :
    Promises (s.createRevert p l x y b n) := by
  obtain ⟨r, j, hcreate, hrl, hro, hra, hjl, hjo⟩ : ∃ r j, s.createRevert p l x y b n = (s.addRevert r).addJob j ∧
      r.line = l ∧ r.owner = p ∧ r.state = .awaitHangup ∧ j.line = l ∧ j.owner = p :=
    ⟨_, _, rfl, rfl, rfl, rfl, rfl, rfl⟩
  have hjob : (s.createRevert p l x y b n).job? l = some j := by
    rw [hcreate, ← hjl]; exact State.addJob_job?_self (s := s.addRevert r) (hjl ▸ hj)
  have hrevert : (s.createRevert p l x y b n).revert? l = some r := by
    rw [hcreate, ← hrl]; exact State.addRevert_revert?_self (hrl ▸ hr)
  have hline (k : Fin 32) : (s.createRevert p l x y b n).line k = s.line k := rfl
  have hfindings (k : Fin 32) : findingsOf (s.createRevert p l x y b n) k = findingsOf s k := rfl
  refine hs.touch (l := l) (.onLines rfl (fun k _ q hq => .inr ⟨k, hq⟩) fun k hk => ⟨rfl, rfl, rfl, rfl, ?_, ?_⟩)
    ⟨⟨(hs.lines l).follows, fun _ _ _ => hmet, ?_, ?_, (hs.lines l).notParked⟩, fun i hi hn => ?_, (hs.lines l).parks⟩
  · rw [hcreate, State.addJob_job?_other _ (by simpa [hjl] using Ne.symm hk)]; rfl
  · exact congrArg (Option.map Revert.mark) ((congrArg (State.revert? · k) hcreate).trans
      (State.addRevert_revert?_other s (by simpa [hrl] using Ne.symm hk)))
  · simp [hjob, hline, ho, hjo]
  · simp [hrevert, hline, ho, hro, hm]
  · exact absurd hra (hn r hrevert)

theorem Promises.revertReply (hs : Promises s) (hscan : EnabledScanned s) (hrun : s.phase = .run) (hm : p ≠ .m)
    (line caller called ringCaller limit : Byte) :
    Promises (revertReply p line caller called ringCaller limit s).state := by
  unfold Machine.revertReply
  split
  · next l x y rc _ _ _ _ =>
    split
    · exact hs
    · exact hs
    · next ha =>
      split
      · exact hs
      · next hr =>
        obtain ⟨ho, hon, hclosing⟩ := revertRefusal_none_met hr
        obtain ⟨-, -, hjob, hrevert, -, -⟩ := revertRefusal_none hr
        exact hs.createRevert hm ho (metOffHook_of_seen (hscan hrun l ha) hon hclosing) hjob hrevert x y rc _
  · exact hs

theorem Promises.revertAtPort (hs : Promises s) (hscan : EnabledScanned s) (hrun : s.phase = .run)
    (line caller called ringCaller limit : Byte) :
    Promises (revertAtPort p line caller called ringCaller limit s).state := by
  unfold Machine.revertAtPort
  dsimp only
  split
  · exact hs
  · refine portControl_reply hs fun hperm _ => hs.revertReply hscan hrun ?_ _ _ _ _ _
    rintro rfl
    exact absurd hperm (by decide)

end Sys2Proof.Machine
end

section
/-! PROOFS. FETCH, the writes and the maintenance requests keep the promises (R11, R12, R19, R43, R49, R168, R175, R182). -/

namespace Sys2Proof.Machine

variable {s t u : State} {l k : Fin 32} {A : Fin 32 → Prop} {p q : Port}

/-! ### FETCH, the policy and the records (R15, R26, R43, R49, R168) -/

theorem Within.fetchReply (s : State) (p : Port) : Within A s (fetchReply p s).state := by
  refine .of_ports rfl fun q => ?_
  have hport := s.modPort_port p q fun r => { r with queue := r.queue.drop Config.fetchSize, overflow := false }
  refine (congrArg (PortKept _ (s.port q)) hport).mpr ?_
  split
  · next e =>
    subst e
    refine ⟨fun h => ?_, fun _ h => ⟨?_, rfl⟩⟩
    · simp only [List.length_drop]; omega
    · simp [h.1]
  · exact ⟨id, fun _ => id⟩

theorem Within.setPolicyReply (s : State) (policy : Byte) : Within A s (setPolicyReply policy s).state := by
  have hset (v : Policy) : Within A s { s with policy := v } := .of_eq rfl
  unfold Machine.setPolicyReply
  split
  · exact .refl s
  split
  · exact .refl s
  · exact (hset _).trans (.pass _)

theorem Within.writeStationReply (s : State) (p : Port)
    (line party enabled home side pattern load selective guarded : Byte) :
    Within A s (writeStationReply p line party enabled home side pattern load selective guarded s).state := by
  unfold Machine.writeStationReply
  split
  · split
    · exact .refl s
    split
    · exact .refl s
    · exact .of_eq rfl
  · exact .refl s

theorem Within.writePatternReply (s : State) (pattern count on1 off1 on2 off2 on3 off3 on4 off4 : Byte) :
    Within A s (writePatternReply pattern count on1 off1 on2 off2 on3 off3 on4 off4 s).state := by
  unfold Machine.writePatternReply
  split
  · split
    · exact .refl s
    · exact .of_eq rfl
  · exact .refl s

theorem Within.writeFeedReply (s : State) (feed freq : Byte) (capacity : BitVec 16) (fallback : Byte) :
    Within A s (writeFeedReply feed freq capacity fallback s).state := by
  unfold Machine.writeFeedReply
  split
  · split
    · exact .refl s
    split
    · exact .refl s
    · exact .writeFeed s _ _ _ _
  · exact .refl s

/-! ### WRITE_LINE (R5, R12, R89, R90) -/

theorem findingsOf_dropFindings (s : State) (l : Fin 32) : findingsOf (s.dropFindings l) l = [] := by
  simp [findingsOf, State.dropFindings, List.filter_filter]

theorem LineStays.dropFindings (s : State) (h : k ≠ l) : LineStays k s (s.dropFindings l) := by
  refine ⟨rfl, ?_⟩
  simp only [findingsOf, State.dropFindings, List.filter_filter]
  refine congrArg _ (List.filter_congr fun x _ => ?_)
  by_cases hx : x.line = k <;> simp [hx, h]

/-- A line without work whose findings are dropped and that is not parked keeps its promises, wherever its scanner starts. -/
theorem Promises.restart (hs : Promises s) (hj : s.job? l = none) (hr : s.revert? l = none) {g : Line → Line}
    (ho : (g (s.line l)).owner = (s.line l).owner) (hp : (g (s.line l)).parked = false) :
    Promises ((s.modLine l g).dropFindings l) := by
  have hline : ((s.modLine l g).dropFindings l).line l = g (s.line l) := s.modLine_line_self l g
  have hwithin : Within (· = l) s ((s.modLine l g).dropFindings l) :=
    .onRecord rfl (fun p hp => .inr ⟨l, by rw [hline, ho] at hp; exact hp⟩) fun k hk =>
      (LineStays.modLine s hk g).trans (.dropFindings _ hk)
  refine hs.touch hwithin (.idle ?_ hj hr (by rw [hline, hp]))
  rw [findingsOf_dropFindings]
  exact .nil _

theorem Promises.restartLine (hs : Promises s) (hj : s.job? l = none) (hr : s.revert? l = none) :
    Promises (s.restartLine l) := hs.restart hj hr rfl rfl

theorem Promises.disableLine (hs : Promises s) (hj : s.job? l = none) (hr : s.revert? l = none) :
    Promises (s.disableLine l) := hs.restart hj hr rfl rfl

theorem Promises.writeLine (hs : Promises s) (hj : s.job? l = none) (hr : s.revert? l = none) (d : Descriptor) :
    Promises (s.writeLine l d) := by
  have hset : Promises (s.modLine l fun x => { x with desc := d }) := hs.calm (.modLine s l _ rfl)
  have htold : Calm (s.modLine l fun x => { x with desc := d })
      (if s.outstanding l then (s.modLine l fun x => { x with desc := d }).abandonOrigination l
        else s.modLine l fun x => { x with desc := d }) := guarded (P := Calm _) (.refl _) (.abandonOrigination _ l)
  unfold State.writeLine State.actOnAdmin
  split
  · exact hset.restartLine hj hr
  · exact hset.restartLine hj hr
  · exact (hset.calm htold).disableLine ((htold.lines l id).noJob hj) ((htold.lines l id).noRevert hr)
  · exact hset.disableLine hj hr
  · exact hset

theorem Promises.writeLineReply (hs : Promises s) (line admin base count allowance limit guarded : Byte) :
    Promises (writeLineReply p line admin base count allowance limit guarded s).state := by
  unfold Machine.writeLineReply
  split
  · split
    · exact hs
    · next hr =>
      obtain ⟨hjob, hrevert⟩ := writeLineRefusal_none hr
      exact hs.writeLine (State.job?_eq_none_of hjob) (State.revert?_eq_none_of hrevert) _
  · exact hs

/-! ### RESET_LINE (R19) -/

/-- RESET_LINE ends the work of the line. -/
theorem Promises.resetWork (hs : Promises s) (l : Fin 32) :
    let a := if s.hasJob l || s.hasRevert l then s.endCall l .lineReset false else s
    Promises a ∧ a.job? l = none ∧ a.revert? l = none := by
  dsimp only
  split
  · exact ⟨hs.endCall l _ _, s.endCall_job? l _ _, State.revert?_eq_none_of (s.endCall_idle l _ _).2⟩
  · next h =>
    simp only [Bool.or_eq_true, not_or, Bool.not_eq_true] at h
    exact ⟨hs, State.job?_eq_none_of h.1, State.revert?_eq_none_of h.2⟩

theorem Promises.resetLine (hs : Promises s) (l : Fin 32) : Promises (s.resetLine l) := by
  obtain ⟨ha, hj, hr⟩ := hs.resetWork l
  unfold State.resetLine
  dsimp only
  generalize (if s.hasJob l || s.hasRevert l then s.endCall l .lineReset false else s) = a at ha hj hr ⊢
  have htold : Calm a (a.abandonIfOutstanding l) := guarded (P := Calm a) (.refl a) (.abandonOrigination a l)
  have hb := ha.calm htold
  have hbj := (htold.lines l id).noJob hj
  have hbr := (htold.lines l id).noRevert hr
  generalize a.abandonIfOutstanding l = b at hb hbj hbr ⊢
  have hcleared : Promises (b.modLine l clearedLine) :=
    hb.touch (.setLine b l nofun)
      (.idle (by rw [State.modLine_line_self]; exact (hb.lines l).follows) hbj hbr
        (by rw [State.modLine_line_self]; rfl))
  exact Promises.calm (guarded hcleared (hcleared.restartLine hbj hbr)) (.passIf _ _)

theorem Promises.resetLineReply (hs : Promises s) (line : Byte) : Promises (resetLineReply line s).state := by
  unfold Machine.resetLineReply
  split
  · exact hs
  · exact hs.resetLine _

/-! ### SAVE, the clears and the forced loss (R126, R127, R175, R182) -/

theorem Within.saveReply (s : State) : Within A s (saveReply s).state := by
  unfold Machine.saveReply
  split
  · exact .refl s
  · exact .of_eq rfl

theorem Within.clearFeedFaultReply (s : State) (feed : Byte) : Within A s (clearFeedFaultReply feed s).state := by
  unfold Machine.clearFeedFaultReply
  split
  · exact .refl s
  · exact .of_eq rfl

theorem Within.forceSenseLossReply (s : State) (feed value : Byte) : Within A s (forceSenseLossReply feed value s).state := by
  unfold Machine.forceSenseLossReply
  split
  · exact .of_eq rfl
  · exact .refl s

/-- In RUN no event is held for the record that CLEAR_FAULT empties. -/
theorem Promises.clearFaultReply (hs : Promises s) (hr : s.phase = .run) : Promises (clearFaultReply s).state := by
  refine ⟨hs.queues, hs.quiet, hs.taken, fun _ => rfl, fun hh => ?_,
    fun l => (hs.lines l).asWas ⟨rfl, rfl, rfl, rfl, rfl, rfl⟩⟩
  have hload := (hs.held hh).1
  exact absurd (hr.symm.trans hload) nofun

end Sys2Proof.Machine
end

section
/-! PROOFS. The resets, LOAD and the beginning of RUN keep the promises (R170, R176, R178, R180, R181). -/

namespace Sys2Proof.Machine

variable {s t u : State} {l k : Fin 32} {A : Fin 32 → Prop} {p q : Port}

/-- Every line is unbound and not parked, as a reset leaves it and LOAD reads it (R8, R178, R180). -/
def FreshLines (s : State) : Prop := ∀ l, (s.line l).owner = none ∧ (s.line l).parked = false

/-- What the promises read of queues and planes. -/
def State.reached (s : State) := (s.ports, s.serviceA, s.serviceB, s.takenOver)

/-- An idle part with fresh lines keeps the promises of queues and planes that another part keeps. -/
theorem Promises.of_fresh (hq : QueuesBounded s) (hquiet : OutOfServiceQuiet s) (htaken : TakenOverIsOut s)
    (h : t.reached = s.reached) (hl : FreshLines t) (hi : Idle t) (hm : MissedNeedARecord t) (hh : CaptureHeldInLoad t) :
    Promises t := by
  simp only [State.reached, Prod.mk.injEq] at h
  obtain ⟨hports, hA, hB, hmark⟩ := h
  obtain ⟨hjobs, hreverts, hfindings⟩ := hi
  refine ⟨fun p => ?_, fun p hp => ?_, fun x hx => ?_, hm, hh, fun l => .idle ?_ ?_ ?_ (hl l).2⟩
  · rw [State.port_congr hports]; exact hq p
  · rw [State.inService_congr hA hB] at hp
    obtain ⟨hempty, hclear, -⟩ := hquiet p hp
    rw [State.port_congr hports]
    exact ⟨hempty, hclear, by simp [(hl _).1]⟩
  · rw [State.inService_congr hA hB]; exact htaken x (hmark ▸ hx)
  · rw [findingsOf, hfindings]; exact .nil _
  · rw [State.job?, hjobs]; rfl
  · rw [State.revert?, hreverts]; rfl

/-! ### Resets (R176, R178) -/

theorem Promises.after_reset (h : t.reached = State.reset.reached) (hr : AfterReset t) (hm : MissedNeedARecord t)
    (hh : t.heldCapture = false) : Promises t := by
  have hport (p : Port) : State.reset.port p = PortRecord.reset := by cases p <;> rfl
  have hline (l : Fin 32) : State.reset.line l = Line.reset := line_of_replicate rfl l
  refine .of_fresh (s := State.reset) (fun p => ?_) (fun p _ => ?_) nofun h (fun l => ?_)
    ⟨hr.jobs, hr.reverts, hr.findings⟩ hm (by simp [CaptureHeldInLoad, hh])
  · rw [hport]; exact Nat.zero_le _
  · rw [hport]; exact ⟨rfl, rfl, fun l => by rw [hline]; exact nofun⟩
  · rw [State.line_congr hr.lines, hline]; exact ⟨rfl, rfl⟩

theorem State.cutSave_faults (s : State) : s.cutSave.faultRecord = s.faultRecord ∧ s.cutSave.missed = s.missed := by
  unfold State.cutSave
  split <;> exact ⟨rfl, rfl⟩

/-- A reset that keeps the fault record. -/
theorem Promises.enterHold (hs : Promises s) (c : Causes) : Promises { s.enterHold with causes := c } := by
  obtain ⟨hrecord, hmissed⟩ := s.cutSave_faults
  refine .after_reset rfl ((AfterReset.enterHold s).congr rfl) (fun hn => ?_) rfl
  exact hmissed.trans (hs.missed (hrecord.symm.trans hn))

/-- A reset that empties the fault record. -/
theorem Promises.enterHold_emptied (s : State) (c : Causes) : Promises { s.enterHold.emptyFaults with causes := c } :=
  .after_reset rfl ((AfterReset.enterHold s).congr rfl) (fun _ => rfl) rfl

/-! ### LOAD (R176, R180) -/

/-- What LOAD of a valid image leaves of a part. -/
structure Loaded (s t : State) : Prop where
  reached : t.reached = s.reached
  faults : (t.phase, t.faultRecord, t.missed, t.heldCapture) = (s.phase, s.faultRecord, s.missed, s.heldCapture)
  lines : FreshLines t
  idle : Idle s → Idle t

theorem freshLines_loadDefaults (s : State) : FreshLines s.loadDefaults := fun l => by
  rw [line_of_replicate (x := Line.reset) rfl]
  exact ⟨rfl, rfl⟩

theorem Loaded.loadLines (s : State) (m : Memory) : Loaded s (allLines.foldl (State.loadLine m) s.loadDefaults) := by
  refine foldl_induction (P := Loaded s) _ _ _ ⟨rfl, rfl, freshLines_loadDefaults s, id⟩ fun u n hu => ?_
  have hput (d : Descriptor) : Loaded s (u.modLine n fun x => { x with desc := d }) := by
    refine ⟨hu.reached, hu.faults, fun l => ?_, hu.idle⟩
    rw [State.modLine_line]
    split
    · exact hu.lines n
    · exact hu.lines l
  unfold State.loadLine
  split
  · exact hu
  split
  · exact hu
  · exact hput _

theorem Loaded.loadImage (s : State) (m : Memory) (flags : Byte) : Loaded s (s.loadImage m flags) := by
  have hread := Loaded.loadLines s m
  unfold State.loadImage
  dsimp only
  generalize allLines.foldl (State.loadLine m) s.loadDefaults = u at hread ⊢
  exact ⟨by simpa only [State.reached] using hread.reached, hread.faults,
    fun l => by simpa only [State.line] using hread.lines l, fun hi => by simpa only [Idle] using hread.idle hi⟩

/-- The source of the configuration and the free values are nothing to it. -/
theorem Loaded.of_same (h : Loaded u t) (hr : u.reached = s.reached)
    (hf : (u.phase, u.faultRecord, u.missed, u.heldCapture) = (s.phase, s.faultRecord, s.missed, s.heldCapture))
    (hi : Idle s → Idle u) : Loaded s t :=
  ⟨h.reached.trans hr, h.faults.trans hf, h.lines, h.idle ∘ hi⟩

theorem Loaded.takeImage (s : State) (silent : List Nat) : Loaded s (s.takeImage silent) := by
  unfold State.takeImage
  dsimp only
  split <;> exact (Loaded.loadImage _ _ _).of_same rfl rfl id

theorem Promises.captureInLoad (hs : Promises s) (hl : s.phase = .load) (hh : s.heldCapture = false) :
    Promises s.captureInLoad := by
  have hwas (t : State) (h : (t.lines, t.findings, t.jobs, t.reverts) = (s.lines, s.findings, s.jobs, s.reverts)) :
      ∀ l, LineKept t l := by
    simp only [Prod.mk.injEq] at h
    obtain ⟨hlines, hfindings, hjobs, hreverts⟩ := h
    exact fun l => (hs.lines l).asWas (.of_stays ⟨State.line_congr hlines l, findingsOf_congr hfindings l⟩ hjobs hreverts)
  unfold State.captureInLoad
  split
  · exact ⟨hs.queues, hs.quiet, hs.taken, nofun, fun _ => ⟨hl, rfl⟩, hwas _ rfl⟩
  · next x hx =>
    exact ⟨hs.queues, hs.quiet, hs.taken, fun hn => absurd (hx.symm.trans hn) nofun,
      fun h => absurd (hh.symm.trans h) nofun, hwas _ rfl⟩

theorem Promises.load (hs : Promises s) (hi : Idle s) (silent : List Nat) : Promises (s.load silent) := by
  unfold State.load
  dsimp only
  split
  · obtain ⟨hreached, hfaults, hlines, hidle⟩ := Loaded.takeImage { s with phase := .load, heldCapture := false } silent
    simp only [Prod.mk.injEq] at hfaults
    obtain ⟨-, hrecord, hmissed, hheld⟩ := hfaults
    exact .of_fresh hs.queues hs.quiet hs.taken hreached hlines (hidle hi)
      (fun hn => hmissed.trans (hs.missed (hrecord.symm.trans hn))) (by simp [CaptureHeldInLoad, hheld])
  · have hdefaults : Promises
        ({ { s with phase := .load, heldCapture := false } with source := .defaults } : State).loadDefaults :=
      .of_fresh hs.queues hs.quiet hs.taken rfl (freshLines_loadDefaults _) hi hs.missed nofun
    exact hdefaults.captureInLoad rfl rfl

/-! ### RUN begins (R181) -/

/-- The lines restart in an idle part. -/
theorem Promises.restartLines (hs : Promises s) (hj : s.jobs = []) (hr : s.reverts = []) (ls : List (Fin 32)) :
    Promises (ls.foldl State.restartIfEnabled s) := by
  refine (foldl_induction (P := fun u => Promises u ∧ u.jobs = [] ∧ u.reverts = []) _ ls s ⟨hs, hj, hr⟩ ?_).1
  rintro u l ⟨hu, hj, hr⟩
  refine guarded (P := fun u => Promises u ∧ u.jobs = [] ∧ u.reverts = []) ⟨hu, hj, hr⟩ ⟨hu.restartLine ?_ ?_, hj, hr⟩
  · rw [State.job?, hj]; rfl
  · rw [State.revert?, hr]; rfl

/-- The restarts do not bear on the held event. -/
theorem State.restartLines_heldCapture (ls : List (Fin 32)) (s : State) (b : Bool) :
    ls.foldl State.restartIfEnabled { s with heldCapture := b } =
      { ls.foldl State.restartIfEnabled s with heldCapture := b } :=
  List.foldl_hom (fun u : State => { u with heldCapture := b }) fun u l => by
    obtain ⟨v, hv⟩ : ∃ v, v = u.restartIfEnabled l := ⟨_, rfl⟩
    rw [← hv]
    by_cases h : (u.line l).desc.admin = .enabled
    · rw [State.restartIfEnabled, if_pos h] at hv
      rw [hv]
      exact if_pos h
    · rw [State.restartIfEnabled, if_neg h] at hv
      rw [hv]
      exact if_neg h

theorem Promises.beginRun (hs : Promises s) (hi : Idle s) : Promises s.beginRun := by
  have hstart : Promises { s with phase := .run, pos := 0, stamp := 0, heldCapture := false } :=
    ⟨hs.queues, hs.quiet, hs.taken, hs.missed, nofun, fun l => (hs.lines l).asWas ⟨rfl, rfl, rfl, rfl, rfl, rfl⟩⟩
  have hlines := hstart.restartLines hi.1 hi.2.1 allLines
  have hcommute := State.restartLines_heldCapture allLines { s with phase := .run, pos := 0, stamp := 0 } false
  unfold State.beginRun
  dsimp only at hcommute ⊢
  rw [hcommute] at hlines
  generalize allLines.foldl State.restartIfEnabled { s with phase := .run, pos := 0, stamp := 0 } = u at hlines ⊢
  have htold (e : Event) : Promises { u.enqueue .m e with heldCapture := false } :=
    hlines.calm (.enqueue (hears_portM _) e)
  unfold State.postHeldCapture
  split
  · exact (htold _).calm (.enqueue (hears_portM _) _)
  · next h =>
    have e : u.enqueue .m u.startEvent = { u.enqueue .m u.startEvent with heldCapture := false } := by
      rw [Bool.not_eq_true] at h; rw [← h]
    rw [e]
    exact htold _

end Sys2Proof.Machine
end

section
/-! PROOFS. Every step keeps the promises about queues, planes, lines and captures (R93, R148, R149, R153, R155, R166, R170,
R176, R178). -/

namespace Sys2Proof.Machine

variable {s t u : State} {l k : Fin 32} {A : Fin 32 → Prop} {p q : Port}

/-- A response that has been sent leaves the queues, and ends no reset (R160). -/
theorem Within.responseSent (s : State) (p : Port) (g : ResetStage) :
    Within A s { s.modPort p fun r => { r with buffer := none, response := none } with resetStage := g } :=
  (Within.modPort s p (fun r => { r with buffer := none, response := none }) rfl rfl).trans (.of_eq rfl)

/-- Every command keeps the promises. -/
theorem Promises.exec {c : Instr} (hs : Promises s) (hidle : s.phase ≠ .run → Idle s) (hpaired : RevertsPaired s)
    (hscan : EnabledScanned s) (h : exec c s = .next t) : Promises t := by
  have hnotRun {v : Phase} (hv : s.phase = v) (hne : v ≠ .run) : Idle s := hidle (by rw [hv]; exact hne)
  cases c
  case openPlane p tag => cases h; exact hs.request fun _ hp _ => hs.openReply hp
  case closePlane p tag => cases h; exact hs.request fun _ hp _ => hs.closeReply hp
  case claim p tag line serial => cases h; exact hs.servedRequest rfl fun _ hv => hs.claimReply hv line serial
  case release p tag line => cases h; exact hs.request fun _ _ _ => hs.releaseReply line
  case takeover p tag => cases h; exact hs.servedRequest rfl fun hp hv => hs.takeoverReply hp hv
  case ring => cases h; exact hs.servedRequest rfl fun _ hv => hs.ringReply hv _ _ _ _ _
  case cancelRing p tag line => cases h; exact hs.request fun _ _ _ => hs.cancelRingReply line
  case promote p tag line cls => cases h; exact hs.calmRequest (.promoteReply s line cls)
  case revert => cases h; exact hs.takeFrame fun hr => hs.revertAtPort hscan hr _ _ _ _ _
  case cancelRevert p tag line => cases h; exact hs.request fun _ _ _ => hs.cancelRevertReply line
  case setPolicy p tag policy => cases h; exact hs.calmRequest (.setPolicyReply s policy)
  case fetch p tag => cases h; exact hs.calmRequest (.fetchReply s p)
  case lineStatus p tag line => cases h; exact hs.calmRequest (by rw [lineStatusReply_state]; exact .refl s)
  case feedStatus p tag feed => cases h; exact hs.calmRequest (by rw [feedStatusReply_state]; exact .refl s)
  case portStatus p tag => cases h; exact hs.calmRequest (.refl s)
  case readLine p tag line => cases h; exact hs.calmRequest (by rw [readLineReply_state]; exact .refl s)
  case readStation => cases h; exact hs.calmRequest (by rw [readStationReply_state]; exact .refl s)
  case readPattern => cases h; exact hs.calmRequest (by rw [readPatternReply_state]; exact .refl s)
  case readFeed => cases h; exact hs.calmRequest (by rw [readFeedReply_state]; exact .refl s)
  case readFault => cases h; exact hs.calmRequest (.refl s)
  case writeLine => cases h; exact hs.request fun _ _ _ => hs.writeLineReply _ _ _ _ _ _ _
  case writeStation => cases h; exact hs.calmRequest (.writeStationReply s _ _ _ _ _ _ _ _ _ _)
  case writePattern => cases h; exact hs.calmRequest (.writePatternReply s _ _ _ _ _ _ _ _ _ _)
  case writeFeed => cases h; exact hs.calmRequest (.writeFeedReply s _ _ _ _)
  case resetLine p tag line => cases h; exact hs.request fun _ _ _ => hs.resetLineReply line
  case save => cases h; exact hs.calmRequest (.saveReply s)
  case reset => cases h; exact hs.calmRequest (.of_eq rfl)
  case clearFault => cases h; exact hs.request fun hr _ _ => hs.clearFaultReply hr
  case clearFeedFault p tag feed => cases h; exact hs.calmRequest (.clearFeedFaultReply s feed)
  case forceSenseLoss => cases h; exact hs.calmRequest (.forceSenseLossReply s _ _)
  case clearCause => cases h; exact hs.calmRequest (.of_eq rfl)
  case badRequest => cases h; exact guarded hs (hs.takeFrame fun _ => hs)
  case linkByteReceived p b v => cases h; exact hs.calm (.receiveByte s p b v)
  case byteGapTimeout p =>
    cases h
    split
    · exact hs
    · exact hs.calm (.modPort s p _ rfl rfl)
  case responseSent p =>
    cases h
    split
    · exact hs
    · exact hs.calm (.responseSent s p _)
  case cadenceTick | noAnswer | waitExpired | noHangup => cases h; exact guarded hs hs.expiry
  case scannerSample inputs =>
    cases h; exact guarded hs (foldl_induction _ _ _ hs fun _ i hu => Promises.sampleLine hu i)
  case burstGuardEnd i | relayFault i => cases h; exact guarded hs (hs.sampleLine i)
  case offHookFinding l | tripFinding l =>
    cases h
    split
    · next hk => exact hs.takeOffHook hpaired hk nofun
    · exact hs
  case onHookFinding l =>
    cases h
    split
    · next hk => exact hs.takeOnHook hk
    · exact hs
  case flashFinding l =>
    cases h
    split
    · next hk => exact hs.takeFlash hk
    · exact hs
  case feedSample inputs =>
    cases h; exact guarded hs (hs.calm (.foldl _ .sampleFeed inputs s))
  case feedFail f => cases h; exact guarded hs (hs.calm (.failFeed s f))
  case feedRecovery f => cases h; exact guarded hs (hs.calm (.recoverFeed s f))
  case fbRecovery => cases h; exact guarded hs (hs.calm (.recoverFeed s .fb))
  case batteryReading n | batteryState n => cases h; exact guarded hs (hs.calm (.applyReading s n))
  case referenceEdge gap => cases h; exact guarded hs (hs.calm (.takeEdge s gap))
  case referenceLost => cases h; exact guarded hs (hs.calm (.loseReference s))
  case referenceRestored gap => cases h; exact guarded hs (hs.calm (.restoreReference s))
  case powerOnReset | supplyDip => cases h; exact .enterHold_emptied s _
  case resetPin => cases h; exact hs.enterHold _
  case commandedReset => cases h; exact guarded hs (hs.enterHold _)
  case load silent =>
    cases h
    split
    · next hp => exact hs.load (hnotRun hp nofun) silent
    · exact hs
  case run =>
    cases h
    split
    · next hp => exact hs.beginRun (hnotRun hp nofun)
    · exact hs
  case saveDone r =>
    simp only [Machine.exec, execSaveDone] at h
    split at h
    · cases h; exact hs
    · cases h
    · next v _ _ => cases h; exact hs.calm (.completeSave s v r)

/-- A step takes one command off the queue, which is nothing to the promises. -/
theorem Promises.step (hs : Promises s) (hidle : WorkOnlyInRun s) (hpaired : RevertsPaired s) (hscan : EnabledScanned s)
    (h : step s = .next t) : Promises t := by
  unfold Machine.step at h
  split at h
  · cases h; exact hs
  · next c rest _ =>
    exact (hs.calm (t := { s with pending := rest }) (.of_eq rfl)).exec hidle hpaired hscan h

/-- Settles O55, by the promises kept together: what a command does leaves the promises of all lines but the one that it
touches, and that line's are kept. -/
theorem stepKeepsQueuesAndService : Obligations.StepKeepsQueuesAndService := by
  intro s t ⟨hqueues, hquiet, htaken, hmissed, hheld, hidle, hpaired, hscan, hlines⟩ h
  have hkept : Promises s := ⟨hqueues, hquiet, htaken, hmissed, hheld, lineKept_iff.2 hlines⟩
  obtain ⟨hqueues, hquiet, htaken, hmissed, hheld, hlines⟩ := hkept.step hidle hpaired hscan h
  exact ⟨hqueues, hquiet, htaken, hmissed, hheld, lineKept_iff.1 hlines⟩

end Sys2Proof.Machine
end

section
/-! PROOFS. REVERT: its checks in order, the row of R97 after a TAKEOVER, and the record and job of an accepted one (R95, R96,
R97). -/

namespace Sys2Proof.Machine

variable {s t : State} {p : Port} {tag line caller called ringCaller limit : Byte} {l : Fin 32} {x y : Fin 8}
  {i k : Fin 192} {b : Bool} {st : Status}

/-! ### REVERT's arguments and checks (R95) -/

theorem revertReply_badArgument
    (h : argLine line = none ∨ argParty caller = none ∨ argParty called = none ∨ argYes ringCaller = none) :
    revertReply p line caller called ringCaller limit s = refuse s .badArgument := by
  unfold revertReply
  split
  · next hl hx hy hb => simp [hl, hx, hy, hb] at h
  · rfl

section
variable (hl : argLine line = some l) (hx : argParty caller = some x) (hy : argParty called = some y)
  (hb : argYes ringCaller = some b)
include hl hx hy hb

theorem revertReply_disabled (ha : (s.line l).desc.admin = .disabled) :
    revertReply p line caller called ringCaller limit s = refuse s .lineDisabled := by
  simp only [revertReply, hl, hx, hy, hb, ha]

theorem revertReply_faulted (ha : (s.line l).desc.admin = .faulted) :
    revertReply p line caller called ringCaller limit s = refuse s .lineFaulted := by
  simp only [revertReply, hl, hx, hy, hb, ha]

theorem revertReply_refused (ha : (s.line l).desc.admin = .enabled) (hr : revertRefusal p l x y s = some st) :
    revertReply p line caller called ringCaller limit s = refuse s st := by
  simp only [revertReply, hl, hx, hy, hb, ha, hr]

theorem revertReply_accepted (ha : (s.line l).desc.admin = .enabled) (hr : revertRefusal p l x y s = none) :
    revertReply p line caller called ringCaller limit s =
      ⟨s.createRevert p l x y b (clampLimit (s.line l).desc.frameLimit limit), .ok,
        [byteOf (clampLimit (s.line l).desc.frameLimit limit), yesCode (b && x != y)]⟩ := by
  simp only [revertReply, hl, hx, hy, hb, ha, hr]

end

theorem revertRefusal_badArgument (h : stationIndex (s.line l).desc x = none ∨ stationIndex (s.line l).desc y = none) :
    revertRefusal p l x y s = some .badArgument := by
  unfold revertRefusal
  split
  · next hi hk => simp [hi, hk] at h
  · rfl

section
variable (hi : stationIndex (s.line l).desc x = some i) (hk : stationIndex (s.line l).desc y = some k)
include hi hk

theorem revertRefusal_heldByOther (ho : ∃ q, (s.line l).owner = some q ∧ q ≠ p) :
    revertRefusal p l x y s = some .heldByOther := by
  obtain ⟨q, ho, hq⟩ := ho
  simp only [revertRefusal, hi, hk, ho]
  exact if_pos hq

theorem revertRefusal_notBound (ho : (s.line l).owner = none) : revertRefusal p l x y s = some .notBound := by
  simp only [revertRefusal, hi, hk, ho]

/-- The checks of REVERT on a line that is bound to its port, in the words of the claims (R95). -/
theorem revertRefusal_bound (ho : (s.line l).owner = some p) :
    revertRefusal p l x y s =
      if s.hasJob l = true ∨ s.hasRevert l = true then some .lineBusy
      else if supervisionMet s l = .onHook ∨ supervisionMet s l = .closing then some .lineOnHook
      else if (s.station i).enabled = false ∨ (s.station k).enabled = false then some .stationDisabled
      else if 8 ≤ s.reverts.length then some .revertFull
      else if 24 ≤ s.jobs.length then some .poolFull
      else none := by
  simp only [revertRefusal, hi, hk, ho, State.seen_eq]
  exact if_neg (not_not.2 rfl)

end

/-- One of the first four checks refuses, and none of them with HELD_BY_OTHER (R95). -/
theorem revertReply_earlier (hl : argLine line = some l)
    (h : ¬(caller.toNat < 8 ∧ called.toNat < 8 ∧ ringCaller.toNat < 2 ∧ (s.line l).desc.admin = .enabled ∧
      caller.toNat < (s.line l).desc.count ∧ called.toNat < (s.line l).desc.count ∧
      (s.line l).desc.base.val + caller.toNat < 192 ∧ (s.line l).desc.base.val + called.toNat < 192)) :
    ∃ st, st ≠ .heldByOther ∧ revertReply p line caller called ringCaller limit s = refuse s st := by
  by_cases hargs : caller.toNat < 8 ∧ called.toNat < 8 ∧ ringCaller.toNat < 2
  · obtain ⟨hcaller, hcalled, hring⟩ := hargs
    have hx : argParty caller = some ⟨caller.toNat, hcaller⟩ := argBelow_eq_some rfl
    have hy : argParty called = some ⟨called.toNat, hcalled⟩ := argBelow_eq_some rfl
    have hb := argYes_eq_some (Nat.le_of_lt_succ hring)
    cases ha : (s.line l).desc.admin with
    | disabled => exact ⟨.lineDisabled, nofun, revertReply_disabled hl hx hy hb ha⟩
    | faulted => exact ⟨.lineFaulted, nofun, revertReply_faulted hl hx hy hb ha⟩
    | enabled =>
      refine ⟨.badArgument, nofun, revertReply_refused hl hx hy hb ha (revertRefusal_badArgument ?_)⟩
      by_contra hne
      simp only [not_or, stationIndex, dite_eq_right_iff, reduceCtorEq, imp_false, not_not] at hne
      obtain ⟨⟨hxc, hxb⟩, hyc, hyb⟩ := hne
      exact h ⟨hcaller, hcalled, hring, ha, hxc, hyc, hxb, hyb⟩
  · refine ⟨.badArgument, nofun, revertReply_badArgument (.inr ?_)⟩
    rw [not_and_or, not_and_or, not_lt, not_lt, not_lt] at hargs
    exact hargs.imp argBelow_eq_none_iff.2 (.imp argBelow_eq_none_iff.2 argYes_eq_none)

/-! ### REVERT at its port (R97, R144) -/

/-- A REVERT taken is answered with what the port gives it. -/
theorem exec_revert (hr : Ready s p) {r : Reply} (h : revertAtPort p line caller called ringCaller limit s = r) :
    exec (.revert p tag line caller called ringCaller limit) s =
      .next (r.state.answer p tag 0x09 [line, caller, called, ringCaller, limit] r.status r.payload) := by
  have hexec : exec (.revert p tag line caller called ringCaller limit) s =
      .next (takeFrame p tag 0x09 [line, caller, called, ringCaller, limit]
        (revertAtPort p line caller called ringCaller limit) s) := rfl
  rw [hexec, takeFrame_run _ hr.1 (State.accepts_of_empty hr.2 _), h]

theorem revert_refuses (hr : Ready s p) (h : revertAtPort p line caller called ringCaller limit s = refuse s st) :
    Refuses (.revert p tag line caller called ringCaller limit) s p tag 0x09 [line, caller, called, ringCaller, limit]
      (statusCode st) :=
  ⟨_, exec_revert hr h, rfl, answers_answer rfl p tag 0x09 _ st []⟩

/-- A plane out of service whose line was moved away by a TAKEOVER is told so where the checks before it pass (R97). -/
theorem revertAtPort_moved (hserv : s.inService p = false) (hm : s.movedAway p line = true)
    (h : revertReply p line caller called ringCaller limit s = refuse s .heldByOther) :
    revertAtPort p line caller called ringCaller limit s = refuse s .heldByOther := by
  unfold revertAtPort
  dsimp only
  exact if_pos ⟨hserv, hm, by rw [h]; rfl⟩

theorem revertAtPort_outOfService (hp : p ≠ .m) (hserv : s.inService p = false) (hne : st ≠ .heldByOther)
    (h : revertReply p line caller called ringCaller limit s = refuse s st) :
    revertAtPort p line caller called ringCaller limit s = refuse s .notInService := by
  have hperm : permitted .revert p = true := isPlane_of_ne hp
  unfold revertAtPort
  dsimp only
  rw [if_neg fun hc => hne (by rw [h] at hc; exact hc.2.2), portControl, if_neg (by simp [hperm]), if_pos ⟨hserv, rfl⟩]

/-- The model's test of a line moved away is the claim's (R97, R153). -/
theorem movedAway_of (h : MovedAway s p l) (hp : p ≠ .m) (hl : argLine line = some l) : s.movedAway p line = true := by
  obtain ⟨⟨x, hx, hplane, hmem⟩, q, hq, hqp, hne⟩ := h
  have hother : q = otherPlane p := by cases p <;> cases q <;> simp_all [isPlane, otherPlane]
  exact (s.movedAway_iff p line).2 ⟨l, x, hl, hx, hplane, hmem, hother ▸ hq⟩

/-- The refusals of REVERT in their order (R95). -/
theorem revert_checksInOrder (hready : Ready s p) (hp : p ≠ .m) (hserv : s.inService p = true)
    (hl : argLine line = some l) (hx : argParty caller = some x) (hy : argParty called = some y)
    (hb : ringCaller.toNat ≤ 1) :
    let d := (s.line l).desc
    let refused :=
      Refuses (.revert p tag line caller called ringCaller limit) s p tag 0x09 [line, caller, called, ringCaller, limit]
    ChecksInOrder refused
      (∀ i k : Fin 192, i.val = d.base.val + x.val → k.val = d.base.val + y.val →
        ChecksInOrder refused True
          [(∃ q, (s.line l).owner = some q ∧ q ≠ p, 0x0A), ((s.line l).owner = none, 0x09),
           (s.hasJob l = true ∨ s.hasRevert l = true, 0x0C),
           (supervisionMet s l = .onHook ∨ supervisionMet s l = .closing, 0x0E),
           ((s.station i).enabled = false ∨ (s.station k).enabled = false, 0x0F), (8 ≤ s.reverts.length, 0x11),
           (24 ≤ s.jobs.length, 0x10)])
      [(d.admin = .disabled, 0x07), (d.admin = .faulted, 0x08), (d.count ≤ x.val ∨ d.count ≤ y.val, 0x04)] := by
  intro d refused
  have hyes := argYes_eq_some hb
  have hreplied {st : Status} (h : revertReply p line caller called ringCaller limit s = refuse s st) :
      refused (statusCode st) :=
    revert_refuses hready ((revertAtPort_inService (isPlane_of_ne hp) hserv _ _ _ _ _).trans h)
  refine ⟨fun h => hreplied (revertReply_disabled hl hx hy hyes h), fun h1 =>
    ⟨fun h => hreplied (revertReply_faulted hl hx hy hyes h), fun h2 => ?_⟩⟩
  have ha : d.admin = .enabled := by
    cases h : d.admin with
    | enabled => rfl
    | disabled => exact absurd h h1
    | faulted => exact absurd h h2
  have hrefused {st : Status} (h : revertRefusal p l x y s = some st) : refused (statusCode st) :=
    hreplied (revertReply_refused hl hx hy hyes ha h)
  refine ⟨fun h => hrefused (revertRefusal_badArgument ?_), fun hcount i k hi hk => ?_⟩
  · have hnone (y : Fin 8) (h : d.count ≤ y.val) : stationIndex d y = none := dif_neg fun hc => absurd h (not_le.2 hc.1)
    exact h.imp (hnone x) (hnone y)
  · rw [not_or, not_le, not_le] at hcount
    have hi := stationIndex_eq_some_iff.2 ⟨hcount.1, hi⟩
    have hk := stationIndex_eq_some_iff.2 ⟨hcount.2, hk⟩
    refine ⟨fun h => hrefused (revertRefusal_heldByOther hi hk h), fun h1 =>
      ⟨fun h => hrefused (revertRefusal_notBound hi hk h), fun h2 => ?_⟩⟩
    have howner : (s.line l).owner = some p := by
      obtain ⟨q, hq⟩ := Option.ne_none_iff_exists'.1 h2
      rw [hq, not_not.1 fun hne => h1 ⟨q, hq, hne⟩]
    have heq := revertRefusal_bound hi hk howner
    exact ⟨fun h => hrefused (st := .lineBusy) (by rw [heq, if_pos h]), fun h3 =>
      ⟨fun h => hrefused (st := .lineOnHook) (by rw [heq, if_neg h3, if_pos h]), fun h4 =>
      ⟨fun h => hrefused (st := .stationDisabled) (by rw [heq, if_neg h3, if_neg h4, if_pos h]), fun h5 =>
      ⟨fun h => hrefused (st := .revertFull) (by rw [heq, if_neg h3, if_neg h4, if_neg h5, if_pos h]), fun h6 =>
      ⟨fun h => hrefused (st := .poolFull) (by rw [heq, if_neg h3, if_neg h4, if_neg h5, if_neg h6, if_pos h]),
        fun _ => trivial⟩⟩⟩⟩⟩

/-- None of the checks refuses a REVERT on an idle line of the port's that is met off-hook. -/
theorem revertRefusal_eq_none (hi : stationIndex (s.line l).desc x = some i)
    (hk : stationIndex (s.line l).desc y = some k) (ho : (s.line l).owner = some p) (hj : s.hasJob l = false)
    (hr : s.hasRevert l = false) (hm : MetOffHook s l) (hei : (s.station i).enabled = true)
    (hek : (s.station k).enabled = true) (hroom : s.reverts.length < 8) (hpool : s.jobs.length < 24) :
    revertRefusal p l x y s = none := by
  have hoff : ¬(supervisionMet s l = .onHook ∨ supervisionMet s l = .closing) := by
    rcases hm with h | h <;> simp [h]
  rw [revertRefusal_bound hi hk ho, if_neg (by simp [hj, hr]), if_neg hoff, if_neg (by simp [hei, hek]),
    if_neg (by omega), if_neg (by omega)]

/-- Settles O18: the record and the RESERVED job of an accepted REVERT, the row of R97, and the checks in their order. -/
theorem revertReservesAJob : Obligations.RevertReservesAJob := by
  refine ⟨?_, ?_, ?_⟩
  · intro s p tag line caller called ringCaller limit l x y i k hp hready hserv hl hx hy hb ha hxc hyc hi hk ho hj hr hm
      hei hek hroom hpool
    have hcheck := revertRefusal_eq_none (stationIndex_eq_some_iff.2 ⟨hxc, hi⟩) (stationIndex_eq_some_iff.2 ⟨hyc, hk⟩) ho
      hj hr hm hei hek hroom hpool
    have hreply := (revertAtPort_inService (isPlane_of_ne hp) hserv _ _ _ _ limit).trans
      (revertReply_accepted (argBelow_eq_some hl) (argBelow_eq_some hx) (argBelow_eq_some hy) (argYes_eq_some hb) ha hcheck)
    rw [clampLimit_eq] at hreply
    have hexec := exec_revert (tag := tag) hready hreply
    refine ⟨_, hexec, rfl, ?_⟩
    have hflag : yesCode ((ringCaller == 1) && x != y) = if ringCaller = 1 ∧ x ≠ y then 1 else 0 := by
      simp [yesCode]
    rw [← hflag]
    exact answers_answer rfl p tag 0x09 _ .ok _
  · intro s p tag line caller called ringCaller limit l hp hready hserv hl hmoved d passes
    have hline : argLine line = some l := argBelow_eq_some hl
    by_cases hpass : passes
    · rw [if_pos hpass]
      obtain ⟨hx, hy, hb, ha, hxc, hyc, hxb, hyb⟩ := hpass
      have hmark := movedAway_of hmoved hp hline
      obtain ⟨-, q, ho, -, hne⟩ := hmoved
      have hheld : revertRefusal p l ⟨caller.toNat, hx⟩ ⟨called.toNat, hy⟩ s = some .heldByOther :=
        revertRefusal_heldByOther (dif_pos ⟨hxc, hxb⟩) (dif_pos ⟨hyc, hyb⟩) ⟨q, ho, hne⟩
      exact revert_refuses hready (revertAtPort_moved hserv hmark
        (revertReply_refused hline (argBelow_eq_some rfl) (argBelow_eq_some rfl)
          (argYes_eq_some (Nat.le_of_lt_succ hb)) ha hheld))
    · rw [if_neg hpass]
      obtain ⟨st, hne, hrefused⟩ := revertReply_earlier (p := p) (limit := limit) hline hpass
      exact revert_refuses hready (revertAtPort_outOfService hp hserv hne hrefused)
  · intro s p tag line caller called ringCaller limit hp hready hserv refused
    refine ⟨fun h => revert_refuses hready ((revertAtPort_inService (isPlane_of_ne hp) hserv _ _ _ _ _).trans
      (revertReply_badArgument ?_)), fun l x y hl hx hy hb => revert_checksInOrder hready hp hserv (argBelow_eq_some hl)
        (argBelow_eq_some hx) (argBelow_eq_some hy) hb⟩
    exact h.imp argBelow_eq_none_iff.2 (.imp argBelow_eq_none_iff.2 (.imp argBelow_eq_none_iff.2 argYes_eq_none))

end Sys2Proof.Machine
end
